-- ==== Sys2Proof/Word.lean ====
section
/-! DEFINITION. The word types of the ED4 (R25 and the Conventions of 00_scope.md). -/

namespace Sys2Proof

/-- A 32-bit word of the packet-memory port (R25). -/
abbrev Word := BitVec 32

/-- One byte of a word or of memory. -/
abbrev Byte := BitVec 8

/-- A 16-bit field: a sequence, a check, a realm seed. Sequences wrap and are compared serially. -/
abbrev Half := BitVec 16

/-- A node number: 0 names none, 65535 is the broadcast node. -/
abbrev Node := BitVec 16

/-- The four byte enables, C_BE[3] first: bit 3 enables byte 0 (bits 31..24) of the word (R25). -/
abbrev Enables := BitVec 4

/-- C_ADDR[23:2], the word address of an access; the byte address is four times it. -/
abbrev WordAddr := BitVec 22

/-- An initiator number, C_INIT[2:0]. -/
abbrev Initiator := Fin 8

/-- A mesh port 0..2. -/
abbrev Port := Fin 3

/-- A set of mesh ports; bit 0 stands for port 0. -/
abbrev PortMask := BitVec 3

/-- A link index: the number of a neighbour table entry. -/
abbrev LinkIx := Fin 32

/-- The index of a route entry. -/
abbrev RouteIx := Fin 256

/-- A slot number; at most 512 slots are tracked. -/
abbrev SlotNo := Fin 512

/-- One of the header words 2..6 of a slot, counted from 0. -/
abbrev HeaderIx := Fin 5

/-- All four byte enables set. -/
abbrev allEnables : Enables := 0xF#4

/-- The broadcast node 65535. -/
abbrev broadcast : Node := 0xFFFF#16

end Sys2Proof
end

