-- ==== Sys2Proof/Syntax.lean ====
section
/-! DEFINITION. The commands of the ED4: one constructor per row of spec/opcode_table.json.
The table gives the rows no operands; the operands are the model's reading (log 4). -/

namespace Sys2Proof

/-- A write on the packet-memory port: initiator, word address, data, byte enables. -/
structure WriteAccess where
  initiator : Initiator
  addr : WordAddr
  data : Word
  be : Enables
  deriving DecidableEq, Repr

/-- A read on the packet-memory port. Its byte enables decide nothing (R2, R136, R180). -/
structure ReadAccess where
  initiator : Initiator
  addr : WordAddr
  be : Enables
  deriving DecidableEq, Repr

/-- A go write that passes the form test of R162, but for its command code: the data word is the key,
the tag and the code that the row names. -/
structure GoAccess where
  initiator : Initiator
  tag : Byte
  deriving DecidableEq, Repr

/-- The two ends of a power-on reset, which lasts until the supplies and the oscillator are stable (R158): power is applied;
or they are stable, with the straps as they stand (log 20). -/
inductive PowerMoment where
  | applied
  | stable (straps : Fin 8)
  deriving DecidableEq, Repr

/-- The commands, in the order of the table. -/
inductive Instr where
  /-- A power-on reset, at its beginning or at its end (R158). -/
  | powerOnReset (moment : PowerMoment)
  /-- RESET goes low (R158). -/
  | resetLineAsserted
  /-- RESET goes high, with the straps as they stand (R158). -/
  | resetLineReleased (straps : Fin 8)
  /-- A write to strip word `latch + 1` (R161). -/
  | argumentWordWrite (initiator : Initiator) (latch : Fin 6) (data : Word) (be : Enables)
  /-- A write to strip word 0 that is no command (R162). -/
  | strayGoWrite (initiator : Initiator) (data : Word) (be : Enables)
  /-- A go write with a code that Table 7 of chapter 2 does not list (R163). -/
  | unknownCommand (go : GoAccess) (code : Byte)
  | setIdentity (go : GoAccess)
  | setRegion (go : GoAccess)
  | setRoles (go : GoAccess)
  | setTiming (go : GoAccess)
  | setMetric (go : GoAccess)
  | setEvents (go : GoAccess)
  | start (go : GoAccess)
  | stop (go : GoAccess)
  | restart (go : GoAccess)
  | pinRoute (go : GoAccess)
  | pinRouteStep
  | unpin (go : GoAccess)
  | unpinStep
  | purgeAdd (go : GoAccess)
  | purgeCancel (go : GoAccess)
  | unbar (go : GoAccess)
  | flushRoutes (go : GoAccess)
  | readRoute (go : GoAccess)
  | readRouteStep
  | readLink (go : GoAccess)
  | readSlot (go : GoAccess)
  | readWanted (go : GoAccess)
  | readWantedStep
  | releaseWanted (go : GoAccess)
  | releaseWantedStep
  | clearCounters (go : GoAccess)
  /-- A read of the claim word (R180). -/
  | claimRead (initiator : Initiator) (be : Enables)
  /-- A write to the claim word (R181). -/
  | completeWrite (initiator : Initiator) (data : Word) (be : Enables)
  /-- A write to a strip word with no behaviour of its own (R2). -/
  | reportWindowWrite (initiator : Initiator) (stripWord : Fin 256) (data : Word) (be : Enables)
  | receiveHeaderWrite (access : WriteAccess)
  | landing (access : WriteAccess)
  | strayLanding (access : WriteAccess)
  | verdictWaitListTake
  | landingHoldExpiry
  | noticeLearningStep
  | noticeChoosingStep
  | forwardingLookup
  | transmitPassStart (access : ReadAccess)
  | passStartLookup
  | passStartHoldExpiry
  | transmitWordRead (access : ReadAccess)
  | softwareHeaderWrite (access : WriteAccess)
  | matchedOutcome (access : WriteAccess)
  | unmatchedOutcome (access : WriteAccess)
  /-- The outcome deadline of one slot is reached (R20). -/
  | outcomeDeadlineExpiry (slot : SlotNo)
  | outcomeJob
  | sampleExpiry
  | sweepBegin
  | sweepVisit
  | purgeWindowExpiry
  | walkerStep
  deriving DecidableEq, Repr

end Sys2Proof
end

