-- ==== Sys2Proof/Decode.lean ====
section
/-! DEFINITION. The decoder. No row of spec/opcode_table.json gives bits, so no word spells a command. -/

namespace Sys2Proof

/-- The command a word spells by the table's bits: none, since the table gives no row any (log 28). -/
def decodeTableWord (_nbits _w : Nat) : Option Instr := none

end Sys2Proof
end

