-- ==== Sys2Proof/Config.lean ====
section
/-! DEFINITION. What the spec fixes for the part: capacities, codes and constants.
No value of the spec is left open as a result of a step, so there is no free value here. -/

namespace Sys2Proof.Config

/-- The key in [31..16] of a go word (R38). -/
abbrev goKey : Half := 0x6E2D#16

/-- Report word 32: vendor code, part code, revision (R39, Table 8 of chapter 2). -/
abbrev identityWord : Word := 0x0A17D401#32

/-- The strip word of the claim word (R39). -/
abbrev claimWord : Nat := 37

/-- Slots tracked in all regions together (R4). -/
abbrev maxSlots : Nat := 512

/-- Landings the verdict wait list holds (R42). -/
abbrev maxWaiting : Nat := 4

/-- Entries of the flood cache (R57). -/
abbrev maxFlood : Nat := 64

/-- Entries of the outcome queue (R69). -/
abbrev maxOutcomes : Nat := 16

/-- Links of the purge set (R79). -/
abbrev maxPurge : Nat := 8

/-- Nodes of the bar list (R83). -/
abbrev maxBarred : Nat := 8

/-- Entries of the wanted list (R115). -/
abbrev maxWanted : Nat := 16

/-- Candidates of a route entry (R96). -/
abbrev maxCandidates : Nat := 4

/-- A path cost that means unreachable (Conventions, R94). -/
abbrev unreachable : Nat := 65535

/-- The greatest link cost, held by a link before its first visit (R63, R92). -/
abbrev maxLinkCost : Nat := 16383

/-- Certain delivery (Conventions). -/
abbrev fullQuality : Nat := 4096

/-- The lag window of R106. -/
abbrev lagWindow : Nat := 2

/-- What a byte of memory that nothing has written reads as. DESIGN CHOICE (log 9), unsafe. -/
abbrev unwrittenByte : Byte := 0#8

/-- The bytes of the port space (Conventions: 16 MiB). -/
abbrev portSpace : Nat := 0x1000000

end Sys2Proof.Config
end

