-- ==== Sys2Proof/Machine/State.lean ====
section
/-! DEFINITION. The state of the ED4 as plain data, block by block (Figure 2 of 00_scope.md), its values after
power-on, and the reasons for which a step could stop (none). -/

namespace Sys2Proof.Machine

/-- Faults of the part. The spec gives every access and every step an effect, so there is none. -/
inductive Fault where
  deriving DecidableEq, Repr

/-- Refusals of the model. -/
inductive Refusal where
  /-- Raised by an arm of `exec` whose row has no meaning yet; safe. No arm raises it. -/
  | notModelled (mnemonic : String)
  deriving DecidableEq, Repr

/-! ### Bus Tap -/

/-- The part an initiator plays (R3). -/
inductive Role where
  | ignored
  | software
  | mesh (port : Port)
  deriving DecidableEq, Repr

/-- A present slot region descriptor (R4). The slot size is 512 × 2 to the power of the size code. -/
structure Region where
  base : BitVec 24
  sizeCode : Fin 4
  count : Nat
  deriving DecidableEq, Repr

/-- A link by name: one neighbour as heard on one mesh port (Conventions). -/
structure LinkName where
  node : Node
  port : Port
  deriving DecidableEq, Repr

/-- The one held access (R22): a landing write, with the link its frame came over, or a word-2 read. -/
inductive Held where
  | landing (addr : WordAddr) (data : Word) (be : Enables) (link : LinkName)
  | passStart (addr : WordAddr) (port : Port)
  deriving DecidableEq, Repr

/-- How far a power-on reset has come (R158): none is in progress; the supplies or the oscillator are not stable yet; or they
are, and a RESET line that was low by then carries the reset on until it is released. -/
inductive PowerPhase where
  | ended | rising | lineLow
  deriving DecidableEq, Repr

/-- Bus Tap state: RESET line level, power-on reset, strip position, roles, regions, the held access and C_DATA of the last
completed read. -/
structure BusTap where
  resetLow : Bool
  power : PowerPhase
  position : Fin 8
  roles : Vector Role 8
  regions : Vector (Option Region) 4
  held : Option Held
  readData : Word
  deriving DecidableEq, Repr

/-- Bus Tap after a reset that leaves the strip at `position` (R1, R3, R4). -/
def BusTap.reset (position : Fin 8) : BusTap :=
  { resetLow := false, power := .ended, position := position, roles := Vector.replicate 8 .ignored,
    regions := Vector.replicate 4 none, held := none, readData := 0 }

/-! ### Slot Capture -/

/-- Slot states (R7, Table 4). -/
inductive SlotState where
  | vacant | filling | landed | composed | inSend | awaitingOutcome
  deriving DecidableEq, Repr

/-- Who wrote a slot's header: a radio or software (R7). -/
inductive Source where
  | received | composed
  deriving DecidableEq, Repr

/-- Why a frame was given DROP-REFUSED (R47, R51). -/
inductive RefusalReason where
  | notMine | barred | loop
  deriving DecidableEq, Repr

/-- The sixteen verdict codes (R36, Table 5 of chapter 2). -/
inductive VerdictCode where
  | none | forward | deliver | flood | rebroadcast | absorb | undecided | late
  | waitRoute | dropMalformed | dropCheck | dropBudget | dropNoRoute | dropDuplicate
  | dropRefused | dropLinkError
  deriving DecidableEq, Repr

/-- The captured words 2..6 of a slot; bytes not written are zero (R8). -/
abbrev HeaderWords := Vector Word 5

/-- The written-byte marks of words 2..6; bit 3 of each is byte 0 of the word (R8). -/
abbrev HeaderMarks := Vector (BitVec 4) 5

/-- A slot record (R7, Table 4). The header-complete mark of a word is all four of its written-byte marks. -/
structure SlotRecord where
  state : SlotState
  source : Option Source
  words : HeaderWords
  marks : HeaderMarks
  landingPort : Option Port
  verdict : VerdictCode
  verdictLink : Option LinkName
  refusal : Option RefusalReason
  passPort : Option Port
  progress : BitVec 4
  sentLink : Option LinkName
  deadline : Option Nat
  deriving DecidableEq, Repr

/-- A VACANT record: every optional field absent, all marks clear (R7). -/
def SlotRecord.vacant : SlotRecord :=
  { state := .vacant, source := none, words := Vector.replicate 5 0, marks := Vector.replicate 5 0,
    landingPort := none, verdict := .none, verdictLink := none, refusal := none, passPort := none,
    progress := 0, sentLink := none, deadline := none }

/-! ### Verdict Unit -/

/-- What Slot Capture hands over at a landing (R11, R43): the copy of the record and the status fields; whether
the landing's write is held (R59); and whether the slot's record is still that of this landing (R13). -/
structure Landing where
  slot : SlotNo
  port : Port
  words : HeaderWords
  marks : HeaderMarks
  linkError : Bool
  rate : Fin 8
  length : Nat
  signal : Int
  held : Bool
  current : Bool
  deriving DecidableEq, Repr

/-- Who asks route storage for steps (Table 2 of chapter 6). -/
inductive Requester where
  | verdict | overlay | command | walker
  deriving DecidableEq, Repr

/-- The table step a computation waits for: the learning step of a notice with the mask and permission of R50;
its choosing step, with the index of the notice's link and the requester to which storage went at the end of the learning
step, until its step has ended (R104, log 16); or a forwarding lookup (R53). -/
inductive WorkPhase where
  | learning (mask : PortMask) (permission : Bool)
  | choosing (mask : PortMask) (permission : Bool) (link : LinkIx) (first : Option Requester)
  | lookup
  deriving DecidableEq, Repr

/-- The computation in progress (R42). -/
structure VerdictWork where
  landing : Landing
  phase : WorkPhase
  deriving DecidableEq, Repr

/-- An entry of the flood cache (R57). -/
structure FloodEntry where
  origin : Node
  seq : Half
  age : Nat
  deriving DecidableEq, Repr

/-- Verdict Unit state: the computation in progress, the verdict wait list (oldest first), the flood cache
(head first). -/
structure VerdictUnit where
  work : Option VerdictWork
  waiting : List Landing
  flood : List FloodEntry
  deriving DecidableEq, Repr

/-- No computation, empty wait list, empty cache (R42, R57). -/
def VerdictUnit.reset : VerdictUnit := { work := none, waiting := [], flood := [] }

/-! ### Link Estimator and Metric Unit -/

/-- Link states (R63, Table 2 of chapter 4). -/
inductive LinkState where
  | free | probation | live | weak | lost | purging
  deriving DecidableEq, Repr

/-- A neighbour table entry (R63, Table 1 of chapter 4). -/
structure Link where
  state : LinkState
  node : Node
  port : Port
  qRx : Nat
  qTx : Nat
  txSamples : Nat
  heard : Bool
  silent : Nat
  probation : Nat
  rate : Fin 8
  signal : Int
  cost : Nat
  helloSeq : Half
  deriving DecidableEq, Repr

/-- The FREE values of Table 1 of chapter 4 (R63). -/
def Link.free : Link :=
  { state := .free, node := 0, port := 0, qRx := 0, qTx := 0, txSamples := 0, heard := false, silent := 0,
    probation := 0, rate := 0, signal := 0, cost := Config.maxLinkCost, helloSeq := 0 }

/-- An entry of the outcome queue (R69). -/
structure OutcomeEntry where
  link : LinkName
  acked : Bool
  attempts : Nat
  rate : Fin 8
  deriving DecidableEq, Repr

/-- The purge set, the purge window's time of expiry while it runs, and the bar list (R79, R83). -/
structure PurgeUnit where
  set : List LinkName
  window : Option Nat
  bars : List Node
  deriving DecidableEq, Repr

/-- Empty set, stopped window, empty bar list (R79, R83). -/
def PurgeUnit.reset : PurgeUnit := { set := [], window := none, bars := [] }

/-- Metric Unit state between steps (R86): the position of a sweep in progress, and the sweep request. An
outcome job begins and ends inside one step (log 14). -/
structure MetricUnit where
  sweep : Option LinkIx
  request : Bool
  deriving DecidableEq, Repr

/-- No job, no request (R86). -/
def MetricUnit.reset : MetricUnit := { sweep := none, request := false }

/-! ### Route Table -/

/-- Route entry states (R96). -/
inductive RouteState where
  | empty | active | orphan
  deriving DecidableEq, Repr

/-- A primary or an alternate: link index and total (R96). -/
structure Choice where
  link : LinkIx
  total : Nat
  deriving DecidableEq, Repr

/-- A pin (R112). -/
structure Pin where
  link : LinkName
  cost : Nat
  deriving DecidableEq, Repr

/-- A candidate: link index, advertised stamp, heard sequence (R96). -/
structure Candidate where
  link : LinkIx
  stamp : Nat
  heard : Half
  deriving DecidableEq, Repr

/-- A route entry (R96, Table 1 of chapter 6). -/
structure RouteEntry where
  state : RouteState
  dest : Node
  latest : Option Half
  lastRebroadcast : Option Half
  age : Nat
  gateway : Bool
  primary : Option Choice
  alternate : Option Choice
  pin : Option Pin
  candidates : List Candidate
  deriving DecidableEq, Repr

/-- The EMPTY values of Table 1 of chapter 6 (R96). -/
def RouteEntry.empty : RouteEntry :=
  { state := .empty, dest := 0, latest := none, lastRebroadcast := none, age := 0, gateway := false,
    primary := none, alternate := none, pin := none, candidates := [] }

/-- States of a wanted-list entry (R115). -/
inductive WantedState where
  | waiting | found | expired
  deriving DecidableEq, Repr

/-- A wanted-list entry (R115). -/
structure WantedEntry where
  dest : Node
  state : WantedState
  age : Nat
  frames : Nat
  deriving DecidableEq, Repr

/-- The walk in progress: its own work and the next entry it will visit (R120). -/
structure Walk where
  refresh : Bool
  flush : Bool
  evict : List LinkIx
  next : RouteIx
  deriving DecidableEq, Repr

/-- The walker: pending refresh flag, flush flag and evict set, and the walk in progress (R120). -/
structure Walker where
  refresh : Bool
  flush : Bool
  evict : List LinkIx
  walk : Option Walk
  deriving DecidableEq, Repr

/-- No walk, no pending work (R120). -/
def Walker.reset : Walker := { refresh := false, flush := false, evict := [], walk := none }

/-! ### Transmit Overlay -/

/-- Treatments of a transmitted frame (R137). -/
inductive Treatment where
  | uncaptured | unicastData | broadcastData | ownHello | ownNotice | relayedNotice | other
  deriving DecidableEq, Repr

/-- How a binding was made (R135); `awaiting` while its lookup is outstanding (R139). -/
inductive BindingHow where
  | awaiting | noLookup | answered | fallback
  deriving DecidableEq, Repr

/-- A pass binding (R135). `verdictLink` is the record's verdict link at pass start (R140, log 18); `receiver`
is the captured receiver until the lookup is answered or given up. -/
structure Binding where
  slot : SlotNo
  treatment : Treatment
  forwarding : Bool
  how : BindingHow
  receiver : Node
  stamp : Option Nat
  ownSeq : Option Half
  verdictLink : Option LinkName
  deriving DecidableEq, Repr

/-- Transmit Overlay state: one binding per mesh port at most, and the own sequences (R135). -/
structure Overlay where
  bindings : Vector (Option Binding) 3
  helloSeq : Half
  noticeSeq : Half
  deriving DecidableEq, Repr

/-- No binding, both own sequences 0 (R135). -/
def Overlay.reset : Overlay := { bindings := Vector.replicate 3 none, helloSeq := 0, noticeSeq := 0 }

/-! ### Control Strip -/

/-- Engine states (R149). -/
inductive EngineState where
  | transparent | learning | forwarding
  deriving DecidableEq, Repr

/-- Engine state, settle count and the sample timer's next expiry while it runs (R149, R152, R155). -/
structure Engine where
  state : EngineState
  settle : Nat
  nextExpiry : Option Nat
  deriving DecidableEq, Repr

/-- TRANSPARENT, settle count 0, timer stopped. -/
def Engine.reset : Engine := { state := .transparent, settle := 0, nextExpiry := none }

/-- Own node (0 while unset) and realm seed (R167). -/
structure Identity where
  ownNode : Node
  realmSeed : Half
  deriving DecidableEq, Repr

/-- Own node unset, realm seed 65535 (R33). -/
def Identity.reset : Identity := { ownNode := 0, realmSeed := 0xFFFF }

/-- The settings of SET TIMING and SET METRIC (Table 2 of chapter 10); the sample interval in milliseconds. -/
structure Settings where
  sampleInterval : Nat
  routeExpiry : Nat
  deadLimit : Nat
  probation : Nat
  settle : Nat
  floodLifetime : Nat
  waitLimit : Nat
  holdLimit : Nat
  outcomeDeadline : Nat
  purgeWindow : Nat
  hopPenalty : Nat
  hysteresis : Nat
  qualityFloor : Nat
  signalFloor : Int
  deriving DecidableEq, Repr

/-- The defaults of Table 2 of chapter 10. -/
def Settings.default : Settings :=
  { sampleInterval := 200, routeExpiry := 30, deadLimit := 4, probation := 3, settle := 5, floodLifetime := 10,
    waitLimit := 5, holdLimit := 64, outcomeDeadline := 30, purgeWindow := 20, hopPenalty := 8, hysteresis := 2,
    qualityFloor := 410, signalFloor := -90 }

/-- Results of a command (R39, Table 8 of chapter 2); `unknown` is "none or not yet known". -/
inductive Result where
  | unknown | done | doneClamped | badArgument | unknownCommand | wrongState | full | notFound
  deriving DecidableEq, Repr

/-- The command engine: the fields of the status word (R164) and the copy of A1..A3 (R163). It is RUNNING
exactly while `running` is set. -/
structure CommandEngine where
  code : Byte
  tag : Byte
  tagPresent : Bool
  running : Bool
  result : Result
  args : Vector Word 3
  deriving DecidableEq, Repr

/-- IDLE with every field of the status word 0 (R164). The spec gives the copy of A1..A3 no reset value: 0 is a DESIGN CHOICE
(log 32). -/
def CommandEngine.reset : CommandEngine :=
  { code := 0, tag := 0, tagPresent := false, running := false, result := .unknown, args := Vector.replicate 3 0 }

/-- The refusal word (R165). -/
structure RefusalWord where
  present : Bool
  code : Byte
  tag : Byte
  deriving DecidableEq, Repr

/-- No refusal. -/
def RefusalWord.reset : RefusalWord := { present := false, code := 0, tag := 0 }

/-- Record kinds of the snapshot header (R39, R40). -/
inductive SnapshotKind where
  | none | route | link | slot | wanted
  deriving DecidableEq, Repr

/-- Snapshot header and area (R40, R173). -/
structure Snapshot where
  kind : SnapshotKind
  tag : Byte
  key : Half
  area : Vector Word 16
  deriving DecidableEq, Repr

/-- Kind 0, area zero (R40). -/
def Snapshot.reset : Snapshot := { kind := .none, tag := 0, key := 0, area := Vector.replicate 16 0 }

/-- Causes of a reset (R160). -/
inductive ResetKind where
  | power | line | command
  deriving DecidableEq, Repr

/-- The reset cause record (R160). -/
structure ResetCause where
  last : ResetKind
  count : Nat
  deriving DecidableEq, Repr

/-- One event source's pending flag, in-service flag and priority (R177). -/
structure EventFlags where
  pending : Bool
  inService : Bool
  priority : Fin 8
  deriving DecidableEq, Repr

/-- The event unit: sources 1..12 (kept at index 0..11) and the threshold (R177). -/
structure EventUnit where
  sources : Vector EventFlags 12
  threshold : Fin 8
  deriving DecidableEq, Repr

/-- All flags clear, priorities and threshold 0 (R177). -/
def EventUnit.reset : EventUnit :=
  { sources := Vector.replicate 12 { pending := false, inService := false, priority := 0 }, threshold := 0 }

/-! ### The whole part -/

/-- Packet memory: (byte address, byte) pairs, addresses rising, no entry equal to what an unlisted address
reads as (log 9). -/
abbrev Memory := List Host.Cell

/-- The canonical form of packet memory, inside the 16 MiB port space. -/
abbrev Memory.wf (m : Memory) : Prop :=
  m.Pairwise (fun c d => c.1 < d.1) ∧ ∀ c ∈ m, c.2 ≠ Config.unwrittenByte ∧ c.1 < Config.portSpace

/-- The state of the part, of the packet memory behind it and of the queue of commands before it. -/
structure State where
  pending : List Instr
  now : Nat
  mem : Memory
  bus : BusTap
  slots : Vector SlotRecord 512
  verdicts : VerdictUnit
  links : Vector Link 32
  outcomes : List OutcomeEntry
  purge : PurgeUnit
  metric : MetricUnit
  routes : Vector RouteEntry 256
  wanted : List WantedEntry
  walker : Walker
  overlay : Overlay
  identity : Identity
  engine : Engine
  settings : Settings
  mailbox : Vector Word 6
  command : CommandEngine
  refusal : RefusalWord
  snapshot : Snapshot
  counters : Vector Nat 16
  events : EventUnit
  cause : ResetCause
  deriving DecidableEq, Repr

/-- The part right after a power-on reset (Table 2 of chapter 9): every block at its reset value, cause POWER,
count 0. The strap number 0, the time base's count 0, C_DATA 0 and 0 in the copy of A1..A3 are DESIGN CHOICES (log 11, 6, 12,
32). -/
def State.reset : State :=
  { pending := [], now := 0, mem := [], bus := BusTap.reset 0, slots := Vector.replicate 512 SlotRecord.vacant,
    verdicts := VerdictUnit.reset, links := Vector.replicate 32 Link.free, outcomes := [],
    purge := PurgeUnit.reset, metric := MetricUnit.reset, routes := Vector.replicate 256 RouteEntry.empty,
    wanted := [], walker := Walker.reset, overlay := Overlay.reset, identity := Identity.reset,
    engine := Engine.reset, settings := Settings.default, mailbox := Vector.replicate 6 0,
    command := CommandEngine.reset, refusal := RefusalWord.reset, snapshot := Snapshot.reset,
    counters := Vector.replicate 16 0, events := EventUnit.reset, cause := { last := .power, count := 0 } }

end Sys2Proof.Machine
end

