-- ==== Sys2Proof/WellFormed.lean ====
section
/-! DEFINITION. When a command's operands are those of its own row. An ill-formed command is an access that
another row names; its meaning is that access's own effect all the same (log 3). -/

namespace Sys2Proof

/-- The command codes of Table 7 of chapter 2 (R38). -/
def listedCodes : List Byte :=
  [0x01, 0x02, 0x03, 0x04, 0x05, 0x06, 0x10, 0x11, 0x12, 0x20, 0x21, 0x22, 0x23, 0x24, 0x25,
   0x30, 0x31, 0x32, 0x33, 0x34, 0x35]

/-- The form test of R162: all four enables set and the key in [31..16]. -/
def isGoForm (data : Word) (be : Enables) : Bool :=
  be == allEnables && data.extractLsb' 16 16 == Config.goKey

/-- Whether a command's operands fit its row, as far as the operands alone decide it. -/
def Instr.wellFormed : Instr → Bool
  | .strayGoWrite _ data be => !isGoForm data be
  | .unknownCommand _ code => !listedCodes.contains code
  | .completeWrite _ _ be => be.getLsbD 0
  | .reportWindowWrite _ w _ be =>
      decide (7 ≤ w.val) && !(w.val == Config.claimWord && be.getLsbD 0)
  | .matchedOutcome a => a.be == allEnables
  | .powerOnReset _ | .resetLineAsserted | .resetLineReleased _ | .argumentWordWrite _ _ _ _
  | .setIdentity _ | .setRegion _ | .setRoles _ | .setTiming _ | .setMetric _ | .setEvents _
  | .start _ | .stop _ | .restart _ | .pinRoute _ | .pinRouteStep | .unpin _ | .unpinStep
  | .purgeAdd _ | .purgeCancel _ | .unbar _ | .flushRoutes _ | .readRoute _ | .readRouteStep
  | .readLink _ | .readSlot _ | .readWanted _ | .readWantedStep | .releaseWanted _
  | .releaseWantedStep | .clearCounters _ | .claimRead _ _ | .receiveHeaderWrite _ | .landing _
  | .strayLanding _ | .verdictWaitListTake | .landingHoldExpiry | .noticeLearningStep
  | .noticeChoosingStep | .forwardingLookup | .transmitPassStart _ | .passStartLookup
  | .passStartHoldExpiry | .transmitWordRead _ | .softwareHeaderWrite _ | .unmatchedOutcome _
  | .outcomeDeadlineExpiry _ | .outcomeJob | .sampleExpiry | .sweepBegin | .sweepVisit
  | .purgeWindowExpiry | .walkerStep => true

end Sys2Proof
end

