-- ==== Sys2Proof/Machine/Operands.lean ====
section
/-! DEFINITION. Words and their parts: byte enables, bit fields, packing, the hop header's fields, the header
check, the slot words radios write, argument fields, and the serial comparison of sequences. -/

namespace Sys2Proof.Machine

/-! ### Bytes and fields of a word -/

/-- The 32-bit mask of the enabled bytes: C_BE[3] covers bits 31..24, C_BE[0] bits 7..0 (R25). -/
def laneMask (be : Enables) : Word :=
  (if be.getLsbD 3 then 0xFF000000#32 else 0) ||| (if be.getLsbD 2 then 0x00FF0000#32 else 0) |||
  (if be.getLsbD 1 then 0x0000FF00#32 else 0) ||| (if be.getLsbD 0 then 0x000000FF#32 else 0)

/-- `old` with its enabled bytes taken from `new` (R8, R161). -/
def mergeBytes (be : Enables) (old new : Word) : Word :=
  (old &&& ~~~ laneMask be) ||| (new &&& laneMask be)

/-- The field of `len` bits whose lowest bit is `lo`. -/
def bitField (w : Word) (lo len : Nat) : BitVec len := w.extractLsb' lo len

/-- The same field as a number. -/
def numField (w : Word) (lo len : Nat) : Nat := (bitField w lo len).toNat

/-- Bits [31..16] of a word. -/
def hiHalf (w : Word) : Half := bitField w 16 16

/-- Bits [15..0] of a word. -/
def loHalf (w : Word) : Half := bitField w 0 16

/-- A word from its two halves. -/
def ofHalves (hi lo : Half) : Word := hi ++ lo

/-- A number placed with its lowest bit at `lo` of an otherwise zero word. -/
def place (lo n : Nat) : Word := BitVec.ofNat 32 n <<< lo

/-- A flag placed at bit `lo`. -/
def placeFlag (lo : Nat) (b : Bool) : Word := if b then place lo 1 else 0

/-- Byte `i` of a word, byte 0 being bits 31..24 (R25). -/
def byteOf (w : Word) (i : Fin 4) : Byte := w.extractLsb' (8 * (3 - i.val)) 8

/-! ### Header capture -/

/-- The hop budget byte of word 3 as it is captured: 32..255 becomes 31 (R28). -/
def clampBudget (data : Word) : Word :=
  if 31 < numField data 16 8 then (data &&& 0xFF00FFFF#32) ||| 0x001F0000#32 else data

/-- Captures the enabled bytes of a header word (R8), the budget clamped (R28). -/
def captureWords (words : HeaderWords) (w : HeaderIx) (data : Word) (be : Enables) : HeaderWords :=
  let taken := if w = 1 then clampBudget data else data
  words.set w.val (mergeBytes be words[w.val] taken)

/-- Sets the written-byte marks of the bytes taken (R8). -/
def captureMarks (marks : HeaderMarks) (w : HeaderIx) (be : Enables) : HeaderMarks :=
  marks.set w.val (marks[w.val] ||| be)

/-- The header-complete mark of a word: all four written-byte marks (R8). -/
def headerComplete (marks : HeaderMarks) (w : HeaderIx) : Bool := marks[w.val] == 0xF#4

/-- All of words 2..6 are header-complete (R45, R137). -/
def allComplete (marks : HeaderMarks) : Bool :=
  headerComplete marks 0 && headerComplete marks 1 && headerComplete marks 2 &&
  headerComplete marks 3 && headerComplete marks 4

/-! ### Fields of the captured header (R26, R27) -/

/-- Word 2 [31..16], the transmitter node. -/
def hdrTransmitter (h : HeaderWords) : Node := hiHalf h[0]
/-- Word 2 [15..0], the receiver node. -/
def hdrReceiver (h : HeaderWords) : Node := loHalf h[0]
/-- Word 3 [31..28], the kind. -/
def hdrKind (h : HeaderWords) : Nat := numField h[1] 28 4
/-- Word 3 [27..26], the flow class. -/
def hdrFlowClass (h : HeaderWords) : Nat := numField h[1] 26 2
/-- Word 3 [25], the gateway flag. -/
def hdrGateway (h : HeaderWords) : Bool := h[1].getLsbD 25
/-- Word 3 [23..16], the hop budget as captured. -/
def hdrBudget (h : HeaderWords) : Nat := numField h[1] 16 8
/-- Word 3 [15..0], the sequence. -/
def hdrSequence (h : HeaderWords) : Half := loHalf h[1]
/-- Word 4 [31..16], the origin node. -/
def hdrOrigin (h : HeaderWords) : Node := hiHalf h[2]
/-- Word 4 [15..0], the final node. -/
def hdrFinal (h : HeaderWords) : Node := loHalf h[2]
/-- Word 5 [31..16], the cost stamp. -/
def hdrStamp (h : HeaderWords) : Nat := (hiHalf h[3]).toNat
/-- Word 6 [15..0], the header check. -/
def hdrCheck (h : HeaderWords) : Half := loHalf h[4]

/-! ### The header check (R33) -/

/-- One bit of the check: feedback, shift, generator 0x1021. -/
def crcBit (reg : Half) (bit : Bool) : Half :=
  let feedback := reg.msb != bit
  let shifted := reg <<< 1
  if feedback then shifted ^^^ 0x1021#16 else shifted

/-- The eight bits of a byte, most significant first. -/
def crcByte (reg : Half) (b : Byte) : Half :=
  [7, 6, 5, 4, 3, 2, 1, 0].foldl (fun r i => crcBit r (b.getLsbD i)) reg

/-- The four bytes of a word in frame order. -/
def crcWord (reg : Half) (w : Word) : Half :=
  crcByte (crcByte (crcByte (crcByte reg (byteOf w 0)) (byteOf w 1)) (byteOf w 2)) (byteOf w 3)

/-- The check over words 3, 4, 5 and bytes 0 and 1 of word 6, from the realm seed. -/
def headerCheck (seed : Half) (w3 w4 w5 w6 : Word) : Half :=
  let reg := crcWord (crcWord (crcWord seed w3) w4) w5
  crcByte (crcByte reg (byteOf w6 0)) (byteOf w6 1)

/-- The check over a captured header (R34, landing). -/
def checkOf (seed : Half) (h : HeaderWords) : Half := headerCheck seed h[1] h[2] h[3] h[4]

/-! ### Slot words written by radios -/

/-- A landing's copy and status fields, from the record's captured header and the status word with its disabled
bytes taken as zero (R11, R35). -/
def landingOf (slot : SlotNo) (port : Port) (words : HeaderWords) (marks : HeaderMarks) (data : Word)
    (be : Enables) : Landing :=
  let w := data &&& laneMask be
  { slot := slot, port := port, words := words, marks := marks, linkError := w.getLsbD 31,
    rate := (bitField w 28 3).toFin, length := numField w 16 11, signal := (bitField w 8 8).toInt,
    held := be.getLsbD 0, current := true }

/-- The link a landed frame came over: captured transmitter and landing port (R26). -/
def Landing.link (l : Landing) : LinkName := { node := hdrTransmitter l.words, port := l.port }

/-- The outcome fields of a transmit outcome word (R37). -/
def outcomeOf (link : LinkName) (data : Word) : OutcomeEntry :=
  { link := link, acked := data.getLsbD 31, attempts := numField data 27 4, rate := (bitField data 24 3).toFin }

/-! ### Sequences -/

/-- Serial comparison (Conventions): `a` is newer than `b` when (a − b) mod 65536 lies in 1..32767. -/
def seqNewer (a b : Half) : Bool := decide (0 < (a - b).toNat) && decide ((a - b).toNat < 32768)

/-- The lag test of R106: (latest − heard) mod 65536 lies in 0..2. -/
def withinLag (latest heard : Half) : Bool := decide ((latest - heard).toNat ≤ Config.lagWindow)

/-! ### Setting values -/

/-- A field value clamped into lo..hi (R168). -/
def clampInto (lo hi n : Nat) : Nat := if n < lo then lo else if hi < n then hi else n

/-- Node numbers that name no node: 0 and 65535. -/
def notANode (n : Node) : Bool := n == 0 || n == broadcast

end Sys2Proof.Machine
end

