-- ==== Sys2Proof/Machine/Flags.lean ====
section
/-! DEFINITION. Counters, event sources and IRQ, the verdict byte and the stale-link flag. -/

namespace Sys2Proof.Machine

/-! ### Counters (R174) -/

/-- The sixteen counters of Table 3 of chapter 10, in their order. -/
inductive Counter where
  | framesLanded | forward | deliver | floodRebroadcast | absorb | drops | checkFailures | lateVerdicts
  | lateBindings | staleSends | outcomesLost | strayGoWrites | sweepOverruns | tableFull | abandoned | barred
  deriving DecidableEq, Repr

/-- The place of a counter; counter k of the manual is at k − 1. -/
def Counter.ix : Counter → Fin 16
  | .framesLanded => 0 | .forward => 1 | .deliver => 2 | .floodRebroadcast => 3 | .absorb => 4 | .drops => 5
  | .checkFailures => 6 | .lateVerdicts => 7 | .lateBindings => 8 | .staleSends => 9 | .outcomesLost => 10
  | .strayGoWrites => 11 | .sweepOverruns => 12 | .tableFull => 13 | .abandoned => 14 | .barred => 15

/-- One count, saturating at 65535 (R174). -/
def State.count (s : State) (c : Counter) : State :=
  { s with counters := s.counters.set c.ix.val (min 65535 (s.counters[c.ix.val] + 1)) }

/-- The value of a counter. -/
def State.counter (s : State) (c : Counter) : Nat := s.counters[c.ix.val]

/-! ### Event sources (R177 to R182) -/

/-- The twelve event sources of Table 1 of chapter 11, in their order. -/
inductive EventSource where
  | routeFound | waitExpired | linkUp | linkDown | gatewayChange | sweepOverrun | lateVerdict | outcomeLost
  | tableFull | commandDone | stateChange | purgeDone
  deriving DecidableEq, Repr

/-- The place of a source; source k of the manual is at k − 1. -/
def EventSource.ix : EventSource → Fin 12
  | .routeFound => 0 | .waitExpired => 1 | .linkUp => 2 | .linkDown => 3 | .gatewayChange => 4
  | .sweepOverrun => 5 | .lateVerdict => 6 | .outcomeLost => 7 | .tableFull => 8 | .commandDone => 9
  | .stateChange => 10 | .purgeDone => 11

/-- The flags of the source at place `i`. -/
def EventUnit.at (u : EventUnit) (i : Fin 12) : EventFlags := u.sources[i.val]

/-- The unit with the flags of the source at place `i` replaced. -/
def EventUnit.put (u : EventUnit) (i : Fin 12) (f : EventFlags) : EventUnit :=
  { u with sources := u.sources.set i.val f }

/-- Raising a source sets its pending flag and nothing else (R178). -/
def State.raise (s : State) (e : EventSource) : State :=
  { s with events := s.events.put e.ix { s.events.at e.ix with pending := true } }

/-- Raises a source when a condition holds. -/
def State.raiseIf (s : State) (c : Bool) (e : EventSource) : State := if c then s.raise e else s

/-- Pending, not in service, priority above the threshold (R179). -/
def EventUnit.presentable (u : EventUnit) (i : Fin 12) : Bool :=
  (u.at i).pending && !(u.at i).inService && decide (u.threshold < (u.at i).priority)

/-- Some source is presentable (R179). -/
def EventUnit.anyPresentable (u : EventUnit) : Bool := (List.finRange 12).any u.presentable

/-- The choice of a claim read: highest priority, then lower number (R180). -/
def EventUnit.choice (u : EventUnit) : Option (Fin 12) :=
  (List.finRange 12).foldl
    (fun best i =>
      if u.presentable i then
        match best with
        | none => some i
        | some b => if (u.at b).priority < (u.at i).priority then some i else some b
      else best)
    none

/-- A hardware reset is on: RESET is low, or a power-on reset has not ended (R158). -/
def State.inReset (s : State) : Bool := s.bus.resetLow || s.bus.power != .ended

/-- Whether IRQ is asserted (driven low): some source is presentable and no hardware reset is on (R179, R158). -/
def State.irqAsserted (s : State) : Bool := s.events.anyPresentable && !s.inReset

/-- Whether C_RDY is high: no access is held (R22). -/
def State.cReady (s : State) : Bool := s.bus.held.isNone

/-! ### The neighbour table as flags read it -/

/-- The entry at a link index. -/
def State.link (s : State) (i : LinkIx) : Link := s.links[i.val]

/-- The link index of the non-FREE entry with a node and port, none for a node that names no link
(R26, R65, R101). -/
def State.findLink (s : State) (n : LinkName) : Option LinkIx :=
  if notANode n.node then none
  else (List.finRange 32).find? fun i =>
    (s.link i).state != .free && (s.link i).node == n.node && (s.link i).port == n.port

/-- The stale-link flag (R56): no non-FREE entry for the link, or one that is not LIVE. -/
def State.staleFlag (s : State) (n : LinkName) : Bool :=
  match s.findLink n with
  | none => true
  | some i => (s.link i).state != .live

/-! ### The verdict byte -/

/-- The code of a verdict (Table 5 of chapter 2). -/
def VerdictCode.toNat : VerdictCode → Nat
  | .none => 0 | .forward => 1 | .deliver => 2 | .flood => 3 | .rebroadcast => 4 | .absorb => 5
  | .undecided => 6 | .late => 7 | .waitRoute => 8 | .dropMalformed => 9 | .dropCheck => 10
  | .dropBudget => 11 | .dropNoRoute => 12 | .dropDuplicate => 13 | .dropRefused => 14 | .dropLinkError => 15

/-- The verdict byte: code in [3..0], port mask in [6..4], stale-link flag in [7] (R36). -/
def verdictByte (code : VerdictCode) (mask : PortMask) (stale : Bool) : Byte :=
  BitVec.ofBool stale ++ mask ++ BitVec.ofNat 4 code.toNat

/-- A word with its byte 3 replaced by a verdict byte (R36). -/
def withVerdictByte (data : Word) (b : Byte) : Word := (data &&& 0xFFFFFF00#32) ||| b.zeroExtend 32

/-- The counters a decided verdict is counted in (R62, Table 1 of chapter 3). -/
def verdictCounters (code : VerdictCode) (reason : Option RefusalReason) : List Counter :=
  match code with
  | .forward => [.forward]
  | .deliver => [.deliver]
  | .flood | .rebroadcast => [.floodRebroadcast]
  | .absorb => [.absorb]
  | .dropCheck => [.drops, .checkFailures]
  | .dropRefused => if reason = some .barred then [.drops, .barred] else [.drops]
  | .dropMalformed | .dropBudget | .dropNoRoute | .dropDuplicate | .dropLinkError => [.drops]
  | .none | .undecided | .late | .waitRoute => []

/-- Counts in each counter of a list. -/
def State.countAll (s : State) (cs : List Counter) : State := cs.foldl State.count s

end Sys2Proof.Machine
end

