-- ==== Sys2Proof/Machine/Ops.lean ====
section
/-! DEFINITION. The named operations over packet memory, the strip, slots, links, routes, the time base, the
walker's pending work, the command engine and the table arbiter. -/

namespace Sys2Proof.Machine

/-! ### Packet memory -/

/-- The byte at an address. -/
def Memory.read : Memory → Nat → Byte
  | [], _ => Config.unwrittenByte
  | c :: m, a => if c.1 = a then c.2 else Memory.read m a

/-- Writes one byte, keeping the canonical form. -/
def Memory.write : Memory → Nat → Byte → Memory
  | [], a, b => if b = Config.unwrittenByte then [] else [(a, b)]
  | c :: m, a, b =>
    if a < c.1 then (if b = Config.unwrittenByte then c :: m else (a, b) :: c :: m)
    else if a = c.1 then (if b = Config.unwrittenByte then m else (a, b) :: m)
    else c :: Memory.write m a b

/-- The byte address of byte `i` of the word at `a`; byte 0 stands lowest (R25, log 10). -/
def byteAddr (a : WordAddr) (i : Fin 4) : Nat := 4 * a.toNat + i.val

/-- Whether the enables enable byte `i` of a word: C_BE[3] enables byte 0 (R25). -/
def enabled (be : Enables) (i : Fin 4) : Bool := be.getLsbD (3 - i.val)

/-- The word at a word address. -/
def Memory.readWord (m : Memory) (a : WordAddr) : Word :=
  m.read (byteAddr a 0) ++ m.read (byteAddr a 1) ++ m.read (byteAddr a 2) ++ m.read (byteAddr a 3)

/-- Writes byte `i` of a word when it is enabled. -/
def Memory.writeLane (m : Memory) (a : WordAddr) (data : Word) (be : Enables) (i : Fin 4) : Memory :=
  if enabled be i then m.write (byteAddr a i) (byteOf data i) else m

/-- Writes the enabled bytes of a word. -/
def Memory.writeWord (m : Memory) (a : WordAddr) (data : Word) (be : Enables) : Memory :=
  (((m.writeLane a data be 0).writeLane a data be 1).writeLane a data be 2).writeLane a data be 3

/-- A write that reaches memory. -/
def State.writeMem (s : State) (a : WordAddr) (data : Word) (be : Enables) : State :=
  { s with mem := s.mem.writeWord a data be }

/-- The port returns a word to the reader. -/
def State.answer (s : State) (w : Word) : State := { s with bus := { s.bus with readData := w } }

/-- A read that returns memory's data unaltered. -/
def State.readMem (s : State) (a : WordAddr) : State := s.answer (s.mem.readWord a)

/-! ### The control strip (R1, R2) -/

/-- The word address of a strip word. The strip base is n × 0x200000 + 0x1FFC00 bytes (R1): bits [21..19] of the word
address hold n, bits [18..8] are all set, bits [7..0] hold the strip word. -/
def stripAddr (n : Fin 8) (w : Fin 256) : WordAddr :=
  (BitVec.ofFin n : BitVec 3) ++ 0x7FF#11 ++ (BitVec.ofFin w : BitVec 8)

/-- The strip word at an address, if it lies in the strip. -/
def stripWordOf (n : Fin 8) (a : WordAddr) : Option (Fin 256) :=
  if a.extractLsb' 8 14 = (BitVec.ofFin n : BitVec 3) ++ 0x7FF#11 then some (a.extractLsb' 0 8).toFin else none

/-- A write to a strip word reaches memory (R2). -/
def State.writeStrip (s : State) (w : Fin 256) (data : Word) (be : Enables) : State :=
  s.writeMem (stripAddr s.bus.position w) data be

/-! ### Roles, regions and slots (R3, R4, R5) -/

/-- The role of an initiator (R3). -/
def State.role (s : State) (i : Initiator) : Role := s.bus.roles[i.val]

/-- The slot size of a region in bytes (R4). -/
def Region.slotSize (r : Region) : Nat := 512 * 2 ^ r.sizeCode.val

/-- The first byte after a region. -/
def Region.limit (r : Region) : Nat := r.base.toNat + r.slotSize * r.count

/-- The slot count of a descriptor; an absent one takes no numbers (R5). -/
def regionCount : Option Region → Nat
  | none => 0
  | some r => r.count

/-- The slots of all present regions (R5). -/
def totalSlots (rs : List (Option Region)) : Nat := (rs.map regionCount).sum

/-- The number of slots in use. -/
def State.slotCount (s : State) : Nat := totalSlots s.bus.regions.toList

/-- Slot number and word offset of a byte address, the regions before having used `used` numbers (R5). -/
def slotAt : List (Option Region) → Nat → Nat → Option (Nat × Nat)
  | [], _, _ => none
  | none :: rs, used, a => slotAt rs used a
  | some r :: rs, used, a =>
    if r.base.toNat ≤ a ∧ a < r.limit then
      some (used + (a - r.base.toNat) / r.slotSize, (a - r.base.toNat) % r.slotSize / 4)
    else slotAt rs (used + r.count) a

/-- The slot and word offset an access addresses (R5). -/
def State.slotOf (s : State) (a : WordAddr) : Option (SlotNo × Nat) :=
  match slotAt s.bus.regions.toList 0 (4 * a.toNat) with
  | none => none
  | some (k, w) => if h : k < 512 then some (⟨k, h⟩, w) else none

/-- The record of a slot. -/
def State.slot (s : State) (k : SlotNo) : SlotRecord := s.slots[k.val]

/-- Replaces the record of a slot. -/
def State.setSlot (s : State) (k : SlotNo) (r : SlotRecord) : State := { s with slots := s.slots.set k.val r }

/-- The slots in number order. -/
def allSlots : List SlotNo := List.finRange 512

/-- The slot a port is filling, other than `k` (R10). -/
def State.otherFilling (s : State) (p : Port) (k : SlotNo) : Option SlotNo :=
  allSlots.find? fun t => t != k && (s.slot t).state == .filling && (s.slot t).passPort == some p

/-- The slot a port has IN_SEND, other than `k` (R17). -/
def State.otherInSend (s : State) (p : Port) (k : SlotNo) : Option SlotNo :=
  allSlots.find? fun t => t != k && (s.slot t).state == .inSend && (s.slot t).passPort == some p

/-! ### Time base (R154) -/

/-- The time base has reached a time (log 7). -/
def State.reach (s : State) (t : Nat) : State := { s with now := max s.now t }

/-! ### Engine -/

/-- LEARNING or FORWARDING. -/
def State.engineRuns (s : State) : Bool := s.engine.state != .transparent

/-! ### Route entries -/

/-- The entry at a route index. -/
def State.route (s : State) (i : RouteIx) : RouteEntry := s.routes[i.val]

/-- Replaces a route entry. -/
def State.setRoute (s : State) (i : RouteIx) (e : RouteEntry) : State := { s with routes := s.routes.set i.val e }

/-- The route indexes in order. -/
def allRoutes : List RouteIx := List.finRange 256

/-- The destination match: the entry in use for a destination (R97). -/
def State.findRoute (s : State) (d : Node) : Option RouteIx :=
  allRoutes.find? fun i => (s.route i).state != .empty && (s.route i).dest == d

/-! ### The walker's pending work (R120 to R122) -/

/-- Something waits for the next walk (R122). -/
def Walker.hasWork (w : Walker) : Bool := w.refresh || w.flush || !w.evict.isEmpty

/-- A walk begins when none is in progress, work is pending and the engine runs; it takes the work (R122). -/
def State.beginWalk (s : State) : State :=
  if s.walker.walk.isNone && s.walker.hasWork && s.engineRuns then
    { s with walker :=
        { refresh := false, flush := false, evict := [],
          walk := some { refresh := s.walker.refresh, flush := s.walker.flush, evict := s.walker.evict, next := 0 } } }
  else s

/-- An evict set with an index added, at most once (R121). -/
def addEvict (evict : List LinkIx) (i : LinkIx) : List LinkIx := if i ∈ evict then evict else evict ++ [i]

/-- Merges link indexes into the pending evict set, without starting a walk (R121). -/
def State.mergeEvict (s : State) (is : List LinkIx) : State :=
  { s with walker := { s.walker with evict := is.foldl addEvict s.walker.evict } }

/-- A refresh request: the flag is set, and a walk begins if it can (R121, R122). -/
def State.requestRefresh (s : State) : State :=
  State.beginWalk { s with walker := { s.walker with refresh := true } }

/-- A flush request (R121, R130). -/
def State.requestFlush (s : State) : State :=
  State.beginWalk { s with walker := { s.walker with flush := true } }

/-! ### Links -/

/-- Replaces a neighbour entry. -/
def State.setLink (s : State) (i : LinkIx) (l : Link) : State := { s with links := s.links.set i.val l }

/-- Replaces a neighbour entry, raising LINK-UP when it enters LIVE and LINK-DOWN when it leaves LIVE (R64). -/
def State.changeLink (s : State) (i : LinkIx) (l : Link) : State :=
  let was := (s.link i).state == .live
  let is := l.state == .live
  ((s.setLink i l).raiseIf (!was && is) .linkUp).raiseIf (was && !is) .linkDown

/-- PROBATION, LIVE or WEAK: the states that are swept, heard and given outcomes (Table 2 of chapter 4). -/
def LinkState.estimated : LinkState → Bool
  | .probation | .live | .weak => true
  | .free | .lost | .purging => false

/-- LOST or PURGING: waiting for the walk that frees the entry. -/
def LinkState.dying : LinkState → Bool
  | .lost | .purging => true
  | .free | .probation | .live | .weak => false

/-- The link indexes in order. -/
def allLinks : List LinkIx := List.finRange 32

/-- The name of the link at an index. -/
def State.linkName (s : State) (i : LinkIx) : LinkName := { node := (s.link i).node, port := (s.link i).port }

/-- Whether the link at an index is LIVE. -/
def State.isLive (s : State) (i : LinkIx) : Bool := (s.link i).state == .live

/-- The number of entries in a link state (R64). -/
def State.linksIn (s : State) (st : LinkState) : Nat := allLinks.countP fun i => (s.link i).state == st

/-- The mesh ports with at least one LIVE link (R55). -/
def State.livePorts (s : State) : PortMask :=
  let on (p : Port) : Bool := allLinks.any fun i => s.isLive i && (s.link i).port == p
  BitVec.ofBool (on 2) ++ BitVec.ofBool (on 1) ++ BitVec.ofBool (on 0)

/-! ### Verdict records (R13) -/

/-- A landing whose slot has begun a new receive pass or had a stray landing no longer owns the record. -/
def Landing.unless (l : Landing) (k : SlotNo) : Landing := if l.slot = k then { l with current := false } else l

/-- No landing of slot `k` still being decided writes into its record any more (R13). -/
def State.disownRecord (s : State) (k : SlotNo) : State :=
  { s with verdicts :=
      { s.verdicts with
        work := s.verdicts.work.map fun w => { w with landing := w.landing.unless k }
        waiting := s.verdicts.waiting.map fun l => l.unless k } }

/-! ### The command engine -/

/-- A RUNNING command completes: result, IDLE, COMMAND-DONE (R166). -/
def State.completeRunning (s : State) (r : Result) : State :=
  State.raise { s with command := { s.command with running := false, result := r } } .commandDone

/-- A command completes at its go write with a result (R163). -/
def State.finish (s : State) (r : Result) : State := { s with command := { s.command with result := r } }

/-- A command goes RUNNING with the result not yet known (R163). -/
def State.goRunning (s : State) : State :=
  { s with command := { s.command with running := true, result := .unknown } }

/-- The codes of the commands that take a class-3 step (R99, Table 1 of chapter 10). -/
def stepCodes : List Byte := [0x20, 0x21, 0x30, 0x33, 0x34]

/-! ### The table arbiter (R98 to R100) -/

/-- A pass-start lookup is outstanding on a port. -/
def State.awaitsLookup (s : State) (p : Port) : Bool :=
  match s.overlay.bindings[p.val] with
  | none => false
  | some b => b.how == .awaiting

/-- The overlay has a lookup request waiting (R111). -/
def State.overlayRequests (s : State) : Bool := (List.finRange 3).any s.awaitsLookup

/-- The command engine has a class-3 request waiting. -/
def State.commandRequests (s : State) : Bool := s.command.running && stepCodes.contains s.command.code

/-- The walker has a request waiting: it asks for its next step when the last has ended (R123). -/
def State.walkerRequests (s : State) : Bool := s.walker.walk.isSome

/-- Whether a requester other than the Verdict Unit has a request waiting. -/
def State.otherRequests (s : State) : Requester → Bool
  | .verdict => false
  | .overlay => s.overlayRequests
  | .command => s.commandRequests
  | .walker => s.walkerRequests

/-- The request of the highest class that is waiting when the learning step releases storage (R104, Table 2 of chapter 6). -/
def State.firstWaiting (s : State) : Option Requester :=
  [Requester.overlay, .command, .walker].find? s.otherRequests

/-- The requester to which storage went at the end of the learning step, while its step has not ended (R104); a request that
has been withdrawn gives storage back (R100). -/
def State.storageHolder (s : State) : Option Requester :=
  match s.verdicts.work with
  | some { landing := _, phase := .choosing _ _ _ first } => first.filter s.otherRequests
  | _ => none

/-- The Verdict Unit has a request waiting. The choosing step is not requested until the step that goes before it has ended
(R104). -/
def State.verdictRequests (s : State) : Bool := s.verdicts.work.isSome && s.storageHolder.isNone

/-- Whether a requester has a request waiting. -/
def State.requests (s : State) (r : Requester) : Bool := if r = .verdict then s.verdictRequests else s.otherRequests r

/-- The class of a requester's request, 1 the highest (R99, R100). -/
def State.arbClass (s : State) : Requester → Nat
  | .verdict => if (s.verdicts.work.map fun w => w.landing.held) = some true then 1 else 2
  | .overlay => 1
  | .command => 3
  | .walker => 4

/-- Whether the arbiter grants a requester's step now: no hardware reset is on, the requester has a request, storage has not
gone to another requester (R98, R104), and no request of a higher class waits (R99). -/
def State.granted (s : State) (r : Requester) : Bool :=
  !s.inReset && s.requests r &&
  match s.storageHolder with
  | some h => h == r
  | none =>
    [Requester.verdict, .overlay, .command, .walker].all fun q => !s.requests q || decide (s.arbClass r ≤ s.arbClass q)

/-- When another requester's step has ended the choosing step is requested (R104). -/
def State.afterOtherStep (s : State) : State :=
  { s with verdicts :=
      { s.verdicts with
        work := s.verdicts.work.map fun w =>
          match w.phase with
          | .choosing m p i _ => { w with phase := .choosing m p i none }
          | _ => w } }

/-! ### The held access (R22, R23) -/

/-- Marks no landing as held any more (R60, R100). -/
def State.unholdLandings (s : State) : State :=
  { s with verdicts :=
      { s.verdicts with
        work := s.verdicts.work.map fun w => { w with landing := { w.landing with held := false } }
        waiting := s.verdicts.waiting.map fun l => { l with held := false } } }

/-- Releases a held landing write with a verdict byte (R23, R36). -/
def State.releaseLanding (s : State) (b : Byte) : State :=
  match s.bus.held with
  | some (.landing a data be _) =>
    State.writeMem { s with bus := { s.bus with held := none } } a (withVerdictByte data b) be
  | _ => s

/-- Releases a held word-2 read with the word supplied (R23). -/
def State.releaseRead (s : State) (w : Word) : State :=
  { s with bus := { s.bus with held := none, readData := w } }

/-- Releases any held access unaltered (R24). -/
def State.releaseUnaltered (s : State) : State :=
  match s.bus.held with
  | none => s
  | some (.landing a data be _) => State.writeMem { s with bus := { s.bus with held := none } } a data be
  | some (.passStart a _) => State.readMem { s with bus := { s.bus with held := none } } a

/-- An access arrives at the port: it takes place unless another access is held, when it waits (R22, R59,
log 2). -/
def State.onPort (s : State) (act : State → State) : State := if s.cReady then act s else s

end Sys2Proof.Machine
end

