-- ==== Sys2Proof/Machine/Metric.lean ====
section
/-! DEFINITION. Link estimation and cost arithmetic (chapters 4 and 5): quality steps, samples, link cost, hellos,
the outcome queue, the sweep, and the purge window. -/

namespace Sys2Proof.Machine

/-! ### Arithmetic (chapter 5) -/

/-- A toward-target step: q moves toward t by the ceiling of an eighth of the distance (R87). -/
def towardTarget (q t : Nat) : Nat :=
  if q ≤ t then q + (t - q + 7) / 8 else q - (q - t + 7) / 8

/-- The outcome sample: 0 when not acknowledged, else 4096 divided by the attempts, rounded (R88). -/
def outcomeSample (acked : Bool) (attempts : Nat) : Nat :=
  if acked then
    let n := max 1 attempts
    (Config.fullQuality + n / 2) / n
  else 0

/-- Combined delivery p (R89). -/
def combinedDelivery (qRx qTx txSamples : Nat) : Nat :=
  if 4 ≤ txSamples then qTx else qRx * qRx / 4096

/-- The rate table, in 0.5 Mbit/s units (R90). -/
def rateOf (code : Fin 8) : Nat :=
  match code.val with
  | 0 => 12 | 1 => 20 | 2 => 32 | 3 => 48 | 4 => 64 | 5 => 96 | 6 => 128 | _ => 160

/-- The quotient of a division, plus 1 when the remainder is not zero (R85). -/
def ceilDiv (n d : Nat) : Nat := n / d + (if n % d = 0 then 0 else 1)

/-- The link cost from p, the rate code and the hop penalty (R91, R92). -/
def linkCost (p : Nat) (rate : Fin 8) (penalty : Nat) : Nat :=
  let d := rateOf rate * p / 256
  if d = 0 then Config.maxLinkCost else min Config.maxLinkCost (ceilDiv 96000 d + penalty)

/-! ### Hellos (R65 to R67) -/

/-- The lowest FREE entry (R66). -/
def State.freeLink (s : State) : Option LinkIx := allLinks.find? fun i => (s.link i).state == .free

/-- The entry a hello creates (R66). -/
def newLink (n : LinkName) (signal : Int) (seq : Half) (signalFloor : Int) : Link :=
  { Link.free with
    state := .probation, node := n.node, port := n.port, signal := signal, helloSeq := seq,
    heard := decide (signalFloor ≤ signal) }

/-- The Link Estimator takes a hello (R65, R66, R67). -/
def State.takeHello (s : State) (n : LinkName) (signal : Int) (seq : Half) : State :=
  if notANode n.node || n.node == s.identity.ownNode then s
  else
    match s.findLink n with
    | some i =>
      let l := s.link i
      if l.state.estimated then
        s.setLink i { l with helloSeq := seq, heard := l.heard || decide (s.settings.signalFloor ≤ signal) }
      else s
    | none =>
      match s.freeLink with
      | some i => s.setLink i (newLink n signal seq s.settings.signalFloor)
      | none => (s.count .tableFull).raise .tableFull

/-- The link update from a frame that passed stage 5 (R48). -/
def State.updateLinkFromFrame (s : State) (n : LinkName) (signal : Int) (rate : Fin 8) : State :=
  match s.findLink n with
  | none => s
  | some i =>
    let l := s.link i
    if l.state.estimated then
      s.setLink i { l with signal := signal, rate := if l.txSamples = 0 then rate else l.rate }
    else s

/-! ### The outcome queue (R69 to R71) -/

/-- Appends an outcome, or drops it against a full queue (R69). -/
def State.appendOutcome (s : State) (o : OutcomeEntry) : State :=
  if s.outcomes.length < Config.maxOutcomes then { s with outcomes := s.outcomes ++ [o] }
  else (s.count .outcomesLost).raise .outcomeLost

/-- A link with one outcome applied (R71). -/
def Link.withOutcome (l : Link) (o : OutcomeEntry) : Link :=
  { l with
    qTx := towardTarget l.qTx (outcomeSample o.acked o.attempts)
    txSamples := min 255 (l.txSamples + 1)
    rate := o.rate }

/-- Applies an outcome to its link, or discards it (R71). -/
def State.applyOutcome (s : State) (o : OutcomeEntry) : State :=
  match s.findLink o.link with
  | none => s
  | some i => if (s.link i).state.estimated then s.setLink i ((s.link i).withOutcome o) else s

/-- An outcome job: due when no sweep runs or is requested and the queue is not empty (R70, R71). -/
def State.outcomeJob (s : State) : State :=
  if s.metric.sweep.isSome || s.metric.request || s.inReset then s
  else
    match s.outcomes with
    | [] => s
    | o :: rest => State.applyOutcome { s with outcomes := rest } o

/-! ### The sweep (R70, R72 to R78) -/

/-- A requested sweep begins at entry 0 when none is running (R70, R86). -/
def State.sweepBegin (s : State) : State :=
  if s.metric.request && s.metric.sweep.isNone && !s.inReset then
    { s with metric := { sweep := some 0, request := false } }
  else s

/-- Steps 1 to 3 of a sweep visit: sample, receive estimate, cost (R73). -/
def Link.sampled (l : Link) (penalty : Nat) : Link :=
  let qRx := towardTarget l.qRx (if l.heard then Config.fullQuality else 0)
  { l with
    heard := false
    silent := if l.heard then 0 else min 15 (l.silent + 1)
    qRx := qRx
    cost := linkCost (combinedDelivery qRx l.qTx l.txSamples) l.rate penalty }

/-- The combined delivery of a sampled entry, on which cost and state both rest (R89). -/
def Link.delivery (l : Link) : Nat := combinedDelivery l.qRx l.qTx l.txSamples

/-- Step 4: the state decision (R74), on a sampled entry. -/
def Link.decided (l : Link) (cfg : Settings) : Link :=
  let p := l.delivery
  if cfg.deadLimit ≤ l.silent then { l with state := .lost }
  else
    match l.state with
    | .probation =>
      let n := l.probation + 1
      if cfg.probation ≤ n then
        { l with probation := n, state := if cfg.qualityFloor ≤ p then .live else .weak }
      else { l with probation := n }
    | .live => if p < cfg.qualityFloor then { l with state := .weak } else l
    | .weak => if cfg.qualityFloor + cfg.qualityFloor / 4 ≤ p then { l with state := .live } else l
    | .free | .lost | .purging => l

/-- The entry after a whole visit (R73). -/
def Link.visited (l : Link) (cfg : Settings) : Link := (l.sampled cfg.hopPenalty).decided cfg

/-- The visit of one entry: skipped when FREE, LOST or PURGING; a link made LOST joins the evict set (R73, R75),
and a walk begins if it can (R122, log 13). -/
def State.visitLink (s : State) (i : LinkIx) : State :=
  let l := s.link i
  if l.state.estimated then
    let l' := l.visited s.settings
    let s1 := s.changeLink i l'
    if l'.state = .lost then (s1.mergeEvict [i]).beginWalk else s1
  else s

/-- After entry 31 the sweep ends and requests a refresh walk; else it moves on (R75, R86). -/
def State.advanceSweep (s : State) (i : LinkIx) : State :=
  if h : i.val + 1 < 32 then { s with metric := { s.metric with sweep := some ⟨i.val + 1, h⟩ } }
  else State.requestRefresh { s with metric := { s.metric with sweep := none } }

/-- The sweep reaches its next entry (R73, R86). -/
def State.sweepVisit (s : State) : State :=
  if s.inReset then s
  else
    match s.metric.sweep with
    | none => s
    | some i => (s.visitLink i).advanceSweep i

/-! ### The sample expiry (R72, R58, R118, R152, R157) -/

/-- A sample expiry requests a sweep, or counts an overrun (R72). -/
def State.requestSweep (s : State) : State :=
  if s.metric.sweep.isSome || s.metric.request then (s.count .sweepOverruns).raise .sweepOverrun
  else { s with metric := { s.metric with request := true } }

/-- Flood cache aging: every age rises, then head entries at or past the lifetime leave (R58). -/
def ageFlood (lifetime : Nat) (fs : List FloodEntry) : List FloodEntry :=
  (fs.map fun f => { f with age := f.age + 1 }).dropWhile fun f => decide (lifetime ≤ f.age)

/-- A wanted entry at a sample expiry (R118). -/
def WantedEntry.aged (limit : Nat) (w : WantedEntry) : WantedEntry :=
  if w.state = .waiting then
    { w with age := w.age + 1, state := if limit ≤ w.age + 1 then .expired else .waiting }
  else w

/-- A WAITING entry that reaches the wait limit at this expiry (R118). -/
def WantedEntry.expiring (limit : Nat) (w : WantedEntry) : Bool :=
  w.state == .waiting && decide (limit ≤ w.age + 1)

/-- Wanted-list aging, with WAIT-EXPIRED (R118). -/
def State.ageWanted (s : State) : State :=
  State.raiseIf { s with wanted := s.wanted.map (WantedEntry.aged s.settings.waitLimit) }
    (s.wanted.any (WantedEntry.expiring s.settings.waitLimit)) .waitExpired

/-- One settle sample while LEARNING (R152). -/
def State.settleSample (s : State) : State :=
  if s.engine.state = .learning then
    let n := s.engine.settle + 1
    if s.settings.settle ≤ n then
      State.raise { s with engine := { s.engine with settle := n, state := .forwarding } } .stateChange
    else { s with engine := { s.engine with settle := n } }
  else s

/-- The sample timer expires: it reloads from the time of the expiry, and the four owners act (R155, R157). -/
def State.sampleExpiry (s : State) : State :=
  if s.inReset then s
  else
    match s.engine.nextExpiry with
    | none => s
    | some t =>
      let s1 := s.reach t
      let s2 := { s1 with engine := { s1.engine with nextExpiry := some (t + s1.settings.sampleInterval) } }
      let s3 := s2.requestSweep
      let s4 := { s3 with verdicts :=
        { s3.verdicts with flood := ageFlood s3.settings.floodLifetime s3.verdicts.flood } }
      s4.ageWanted.settleSample

/-! ### The purge window (R81) -/

/-- The purge of one pair: a PROBATION, LIVE or WEAK link becomes PURGING and joins the evict set (R81). -/
def State.purgeLink (s : State) (n : LinkName) : State :=
  match s.findLink n with
  | none => s
  | some i =>
    if (s.link i).state.estimated then
      (s.changeLink i { s.link i with state := .purging }).mergeEvict [i]
    else s

/-- The purge window expires: the whole set is purged and emptied, and a walk begins if it can (R81, R122). -/
def State.purgeWindowExpiry (s : State) : State :=
  if s.inReset then s
  else
    match s.purge.window with
    | none => s
    | some t =>
      let s1 := s.reach t
      let s2 := s1.purge.set.foldl State.purgeLink { s1 with purge := { s1.purge with window := none } }
      State.beginWalk { s2 with purge := { s2.purge with set := [] } }

end Sys2Proof.Machine
end

