-- ==== Sys2Proof/Machine/Routes.lean ====
section
/-! DEFINITION. The route table (chapters 6 and 7): totals, eligibility, selection and its reports, taking an
entry, the wanted list, the candidate update, and the walker's step. -/

namespace Sys2Proof.Machine

/-! ### Totals and eligibility -/

/-- A total over a link: stamp or pin cost plus the link's current cost, at most 65535 (R94, R107). -/
def State.totalOver (s : State) (i : LinkIx) (base : Nat) : Nat :=
  min Config.unreachable (base + (s.link i).cost)

/-- A candidate's total (R94). -/
def State.candidateTotal (s : State) (c : Candidate) : Nat := s.totalOver c.link c.stamp

/-- Eligibility: LIVE link, total below 65535, heard sequence within the lag window (R106). -/
def State.eligible (s : State) (latest : Option Half) (c : Candidate) : Bool :=
  s.isLive c.link && decide (s.candidateTotal c < Config.unreachable) &&
  match latest with
  | none => false
  | some q => withinLag q c.heard

/-- The eligible candidates of an entry, in list order. -/
def State.eligibles (s : State) (e : RouteEntry) : List Candidate := e.candidates.filter (s.eligible e.latest)

/-- Candidate `c` goes before `d`: lower total, then lower link node, then lower port (R107). -/
def State.candidateBefore (s : State) (c d : Candidate) : Bool :=
  let t := s.candidateTotal c
  let u := s.candidateTotal d
  let m := (s.link c.link).node.toNat
  let n := (s.link d.link).node.toNat
  decide (t < u) || (t == u && (decide (m < n) || (m == n && decide ((s.link c.link).port < (s.link d.link).port))))

/-- The best of a list of candidates (R107). -/
def State.best (s : State) (cs : List Candidate) : Option Candidate :=
  cs.foldl
    (fun b c =>
      match b with
      | none => some c
      | some d => if s.candidateBefore c d then some c else some d)
    none

/-- A candidate as a primary or alternate: its link and its total. -/
def State.choiceOf (s : State) (c : Candidate) : Choice := { link := c.link, total := s.candidateTotal c }

/-! ### Selection (R107) -/

/-- Step 1: the pin link when it exists, is LIVE and has a total below 65535. -/
def State.pinChoice (s : State) (e : RouteEntry) : Option Choice :=
  match e.pin with
  | none => none
  | some p =>
    match s.findLink p.link with
    | none => none
    | some i =>
      if s.isLive i && decide (s.totalOver i p.cost < Config.unreachable) then
        some { link := i, total := s.totalOver i p.cost }
      else none

/-- The hysteresis margin of a primary total: P × hysteresis / 16, truncated. -/
def margin (p hysteresis : Nat) : Nat := p * hysteresis / 16

/-- Step 2: the primary from the candidates, with hysteresis for a primary that is still eligible. -/
def State.candidatePrimary (s : State) (e : RouteEntry) : Option Choice :=
  match s.best (s.eligibles e) with
  | none => none
  | some b =>
    match e.primary.bind fun pr => (s.eligibles e).find? fun c => c.link == pr.link with
    | none => some (s.choiceOf b)
    | some cur =>
      if margin (s.candidateTotal cur) s.settings.hysteresis < s.candidateTotal cur - s.candidateTotal b then
        some (s.choiceOf b)
      else some (s.choiceOf cur)

/-- Steps 1 and 2: the primary after a selection. -/
def State.selectPrimary (s : State) (e : RouteEntry) : Option Choice :=
  match s.pinChoice e with
  | some c => some c
  | none => s.candidatePrimary e

/-- Step 3: the best eligible candidate on a port other than the primary's. -/
def State.selectAlternate (s : State) (e : RouteEntry) (primary : Option Choice) : Option Choice :=
  match primary with
  | none => none
  | some pr =>
    (s.best ((s.eligibles e).filter fun c => (s.link c.link).port != (s.link pr.link).port)).map s.choiceOf

/-- The entry after a selection (R107). -/
def State.selected (s : State) (e : RouteEntry) : RouteEntry :=
  let pr := s.selectPrimary e
  { e with
    primary := pr
    alternate := s.selectAlternate e pr
    state := if pr.isSome then .active else .orphan }

/-! ### The wanted list (R115 to R119) -/

/-- A WAITING wanted entry becomes FOUND (R117). -/
def WantedEntry.answered (d : Node) (w : WantedEntry) : WantedEntry :=
  if w.dest = d ∧ w.state = .waiting then { w with state := .found } else w

/-- A destination is WAITING. -/
def State.waitsFor (s : State) (d : Node) : Bool := s.wanted.any fun w => w.dest == d && w.state == .waiting

/-- The list holds an entry for a destination. -/
def State.wants (s : State) (d : Node) : Bool := s.wanted.any fun w => w.dest == d

/-- A request on an entry already in the list (R116). -/
def WantedEntry.requested (d : Node) (w : WantedEntry) : WantedEntry :=
  if w.dest = d then
    if w.state = .waiting then { w with frames := min 255 (w.frames + 1) }
    else { w with state := .waiting, age := 0, frames := 1 }
  else w

/-- Whether a wanted-list request is accepted (R116). -/
def State.acceptsWanted (s : State) (d : Node) : Bool := s.wants d || decide (s.wanted.length < Config.maxWanted)

/-- A wanted-list request (R116). -/
def State.requestWanted (s : State) (d : Node) : State :=
  if s.wants d then { s with wanted := s.wanted.map (WantedEntry.requested d) }
  else if s.wanted.length < Config.maxWanted then
    { s with wanted := s.wanted ++ [{ dest := d, state := .waiting, age := 0, frames := 1 }] }
  else s

/-- A FOUND or EXPIRED entry, which software may release (R119). -/
def WantedEntry.releasable (w : WantedEntry) : Bool := w.state != .waiting

/-! ### Selection's reports (R108) -/

/-- The link index of an optional primary; absent counts as a value. -/
def choiceLink (c : Option Choice) : Option LinkIx := c.map fun x => x.link

/-- ROUTE-FOUND with the wanted entry, when an entry gains a primary (R108, R117). -/
def State.reportFound (s : State) (before after : RouteEntry) : State :=
  if before.primary.isNone && after.primary.isSome && s.waitsFor after.dest then
    State.raise { s with wanted := s.wanted.map (WantedEntry.answered after.dest) } .routeFound
  else s

/-- GATEWAY-CHANGE when the primary link of a gateway-flagged entry changes (R108). -/
def State.reportGateway (s : State) (before after : RouteEntry) : State :=
  s.raiseIf (after.gateway && choiceLink before.primary != choiceLink after.primary) .gatewayChange

/-- Makes a selection for entry content `e` and stores it at `i`, with its reports (R107, R108). -/
def State.reselect (s : State) (i : RouteIx) (e : RouteEntry) : State :=
  let e' := s.selected e
  ((s.setRoute i e').reportFound e e').reportGateway e e'

/-! ### Taking an entry (R102) -/

/-- The lowest EMPTY entry. -/
def State.emptyRoute (s : State) : Option RouteIx := allRoutes.find? fun i => (s.route i).state == .empty

/-- The ORPHAN entry without a pin whose age is greatest, ties to the lowest index. -/
def State.oldestOrphan (s : State) : Option RouteIx :=
  allRoutes.foldl
    (fun b i =>
      if (s.route i).state == .orphan && (s.route i).pin.isNone then
        match b with
        | none => some i
        | some j => if (s.route j).age < (s.route i).age then some i else some j
      else b)
    none

/-- The entry taken for a new destination, if any can be (R102). -/
def State.takeable (s : State) : Option RouteIx :=
  match s.emptyRoute with
  | some i => some i
  | none => s.oldestOrphan

/-- A freshly taken entry (R102, R113). -/
def RouteEntry.taken (d : Node) (latest : Option Half) (gateway : Bool) : RouteEntry :=
  { RouteEntry.empty with state := .orphan, dest := d, latest := latest, gateway := gateway }

/-! ### The learning step (R101 to R104) -/

/-- What a notice offers: origin, sequence, stamp, gateway flag. -/
structure Offer where
  origin : Node
  seq : Half
  stamp : Nat
  gateway : Bool
  deriving DecidableEq, Repr

/-- The candidate a newcomer may replace: not over the primary link, greatest total, nearest the head on ties
(R104). -/
def State.victim (s : State) (e : RouteEntry) : Option Candidate :=
  (e.candidates.filter fun c => choiceLink e.primary != some c.link).foldl
    (fun b c =>
      match b with
      | none => some c
      | some d => if s.candidateTotal d < s.candidateTotal c then some c else some d)
    none

/-- The candidate update (R104). -/
def State.withOffer (s : State) (e : RouteEntry) (i : LinkIx) (o : Offer) : RouteEntry :=
  let new : Candidate := { link := i, stamp := o.stamp, heard := o.seq }
  if e.candidates.any fun c => c.link == i then
    { e with candidates := e.candidates.map fun c => if c.link = i then new else c }
  else if e.candidates.length < Config.maxCandidates then { e with candidates := e.candidates ++ [new] }
  else
    match s.victim e with
    | none => e
    | some v =>
      if s.candidateTotal new < s.candidateTotal v then
        { e with candidates := e.candidates.filter (fun c => c.link != v.link) ++ [new] }
      else e

/-- The sequence test on an entry in use: none when the notice is stale (R103). -/
def RouteEntry.afterSequence (e : RouteEntry) (o : Offer) : Option RouteEntry :=
  let newer : RouteEntry := { e with latest := some o.seq, age := 0, gateway := o.gateway }
  match e.latest with
  | none => some newer
  | some q => if seqNewer o.seq q then some newer else if o.seq = q then some e else none

/-! ### The walker's step (R124 to R127) -/

/-- Whether a walk keeps a candidate (R124). -/
def State.keepsCandidate (s : State) (w : Walk) (c : Candidate) : Bool :=
  !w.evict.contains c.link && (s.link c.link).state.estimated

/-- An entry after the candidate removal of a walk's step (R124). -/
def State.trimmed (s : State) (w : Walk) (e : RouteEntry) : RouteEntry :=
  { e with candidates := e.candidates.filter (s.keepsCandidate w) }

/-- An entry one refreshing walk older (R126). -/
def RouteEntry.aged (e : RouteEntry) : RouteEntry := { e with age := min 255 (e.age + 1) }

/-- An entry becomes EMPTY in a walk, with GATEWAY-CHANGE when it held a flagged primary (R125, R127). -/
def State.emptyEntry (s : State) (i : RouteIx) (e : RouteEntry) : State :=
  (s.setRoute i RouteEntry.empty).raiseIf (e.primary.isSome && e.gateway) .gatewayChange

/-- The step of a walk on one entry (R124 to R127). -/
def State.walkEntry (s : State) (w : Walk) : State :=
  let e := s.route w.next
  if e.state = .empty then s
  else
    let e1 := s.trimmed w e
    if w.flush && e1.pin.isNone then s.emptyEntry w.next e1
    else
      let e2 := if w.refresh then e1.aged else e1
      if e2.pin.isNone && ((w.refresh && decide (s.settings.routeExpiry ≤ e2.age)) || e2.candidates.isEmpty) then
        s.emptyEntry w.next e2
      else s.reselect w.next e2

/-- A link evicted by a completed walk becomes FREE and leaves the purge set (R84, R128). -/
def State.freeEvicted (s : State) (i : LinkIx) : State :=
  State.setLink { s with purge := { s.purge with set := s.purge.set.filter fun n => n != s.linkName i } } i Link.free

/-- A walk completes: its links become FREE, PURGE-DONE is raised when one of them was PURGING, a flush completes
its command, and the next walk begins if work is pending (R128, R129). -/
def State.completeWalk (s : State) (w : Walk) : State :=
  let purged := w.evict.any fun i => (s.link i).state == .purging
  let s1 := w.evict.foldl State.freeEvicted s
  let s2 := State.raiseIf { s1 with walker := { s1.walker with walk := none } } purged .purgeDone
  State.beginWalk (if w.flush then s2.completeRunning .done else s2)

/-- After the step on an entry: the next entry, or completion after entry 255 (R123, R128). -/
def State.advanceWalk (s : State) (w : Walk) : State :=
  if h : w.next.val + 1 < 256 then
    { s with walker := { s.walker with walk := some { w with next := ⟨w.next.val + 1, h⟩ } } }
  else s.completeWalk w

/-- A walker step, when the arbiter grants it (R99, R123). -/
def State.walkerStep (s : State) : State :=
  if s.granted .walker then
    match s.walker.walk with
    | none => s
    | some w => ((s.afterOtherStep).walkEntry w).advanceWalk w
  else s

end Sys2Proof.Machine
end

