-- ==== Sys2Proof/Machine/Slots.lean ====
section
/-! DEFINITION. Slot Capture (chapter 1): receive passes, software writes, the end of passes, transmit outcomes and
their deadlines. -/

namespace Sys2Proof.Machine

/-- A record with the enabled bytes of a header word captured (R8). -/
def SlotRecord.capture (r : SlotRecord) (w : HeaderIx) (data : Word) (be : Enables) : SlotRecord :=
  { r with words := captureWords r.words w data be, marks := captureMarks r.marks w be }

/-- A record with captured header and marks cleared (R9). -/
def SlotRecord.cleared (r : SlotRecord) : SlotRecord :=
  { r with words := Vector.replicate 5 0, marks := Vector.replicate 5 0 }

/-- The fresh record of a new receive pass (R9). -/
def SlotRecord.newFill (p : Port) : SlotRecord :=
  { SlotRecord.vacant with state := .filling, source := some .received, passPort := some p }

/-- The record of a stray landing (R12). -/
def SlotRecord.stray (p : Port) : SlotRecord :=
  { SlotRecord.vacant with state := .landed, source := some .received, landingPort := some p }

/-- The fresh record of a slot that software begins to compose (R14). -/
def SlotRecord.newComposed : SlotRecord :=
  { SlotRecord.vacant with state := .composed, source := some .composed }

/-- A slot is being filled by a port. -/
def SlotRecord.fillingBy (r : SlotRecord) (p : Port) : Bool := r.state == .filling && r.passPort == some p

/-- LANDED or COMPOSED by the record's source (R19, R20). -/
def SlotRecord.restState (r : SlotRecord) : SlotState := if r.source = some .composed then .composed else .landed

/-- A record whose wait for an outcome is over (R19, R20). -/
def SlotRecord.waitOver (r : SlotRecord) : SlotRecord :=
  { r with state := r.restState, passPort := none, deadline := none }

/-- A record whose transmit pass has ended and waits for its outcome until `deadline` (R18, R20). -/
def SlotRecord.passEnded (r : SlotRecord) (deadline : Nat) : SlotRecord :=
  { r with state := .awaitingOutcome, progress := 0, deadline := some deadline }

/-- Discards the binding of a port (R148). -/
def State.dropBinding (s : State) (p : Port) : State :=
  { s with overlay := { s.overlay with bindings := s.overlay.bindings.set p.val none } }

/-- Discards the binding of an optional pass port. -/
def State.dropPassBinding (s : State) : Option Port → State
  | none => s
  | some p => s.dropBinding p

/-- The outcome deadline of a pass that ends now (R20). -/
def State.newDeadline (s : State) : Nat := s.now + s.settings.outcomeDeadline

/-- What slot `k` was doing ends for a new receive pass or a stray landing (Table 5 of chapter 1, R148). -/
def State.endForFill (s : State) (k : SlotNo) : State :=
  let r := s.slot k
  match r.state with
  | .vacant | .landed | .composed => s
  | .filling => s.count .abandoned
  | .inSend => (s.count .abandoned).dropPassBinding r.passPort
  | .awaitingOutcome => s.count .outcomesLost

/-- The port's fill of another slot is abandoned (R10). -/
def State.abandonOther (s : State) (p : Port) (k : SlotNo) : State :=
  match s.otherFilling p k with
  | none => s
  | some t => (s.setSlot t SlotRecord.vacant).count .abandoned

/-- A mesh-port write to a header word (R9, R10). -/
def State.receiveHeader (s : State) (p : Port) (k : SlotNo) (w : HeaderIx) (data : Word) (be : Enables) : State :=
  let r := s.slot k
  if r.fillingBy p then
    s.setSlot k ((if w = 0 then r.cleared else r).capture w data be)
  else
    let s1 := ((s.endForFill k).abandonOther p k).disownRecord k
    s1.setSlot k ((SlotRecord.newFill p).capture w data be)

/-- A SOFTWARE write to a header word (R14). -/
def State.softwareHeader (s : State) (k : SlotNo) (w : HeaderIx) (data : Word) (be : Enables) : State :=
  let r := s.slot k
  match r.state with
  | .filling => s
  | .vacant => s.setSlot k (SlotRecord.newComposed.capture w data be)
  | .landed | .composed => s.setSlot k { r.capture w data be with source := some .composed, state := .composed }
  | .inSend | .awaitingOutcome => s.setSlot k { r.capture w data be with source := some .composed }

/-- Whether a word-1 write by port `p` with these enables is the matched outcome of slot `k` (R19). -/
def State.matchesOutcome (s : State) (p : Port) (k : SlotNo) (be : Enables) : Bool :=
  be == allEnables && (s.slot k).state == .awaitingOutcome && (s.slot k).passPort == some p

/-- A matched outcome (R19). -/
def State.takeOutcome (s : State) (k : SlotNo) (data : Word) : State :=
  let r := s.slot k
  let s1 := s.setSlot k r.waitOver
  match r.sentLink with
  | none => s1
  | some n => s1.appendOutcome (outcomeOf n data)

/-- The outcome deadline of a slot expires (R20). -/
def State.expireDeadline (s : State) (k : SlotNo) : State :=
  let r := s.slot k
  if s.inReset then s
  else
    match r.state, r.deadline with
    | .awaitingOutcome, some t => ((s.reach t).setSlot k r.waitOver).count .outcomesLost
    | _, _ => s

/-- All slots VACANT (R7). -/
def State.clearSlots (s : State) : State := { s with slots := Vector.replicate 512 SlotRecord.vacant }

end Sys2Proof.Machine
end

