-- ==== Sys2Proof/Machine/Transmit.lean ====
section
/-! DEFINITION. The Transmit Overlay (chapter 8): treatments, bindings, the pass-start lookup and its fallback, and the
words supplied on transmit reads. -/

namespace Sys2Proof.Machine

/-- The treatment of a frame at pass start (R137, Table 1 of chapter 8). -/
def State.treatmentOf (s : State) (r : SlotRecord) : Treatment :=
  if !allComplete r.marks then .uncaptured
  else if hdrKind r.words = 0 then (if hdrFinal r.words = broadcast then .broadcastData else .unicastData)
  else if hdrKind r.words = 1 ∧ hdrOrigin r.words = s.identity.ownNode then .ownHello
  else if hdrKind r.words = 2 then (if hdrOrigin r.words = s.identity.ownNode then .ownNotice else .relayedNotice)
  else .other

/-- Whether a pass needs a route lookup (R139). -/
def needsLookup (t : Treatment) (forwarding : Bool) : Bool :=
  match t with
  | .unicastData => forwarding
  | .relayedNotice => true
  | .uncaptured | .broadcastData | .ownHello | .ownNotice | .other => false

/-- The binding of a port. -/
def State.binding (s : State) (p : Port) : Option Binding := s.overlay.bindings[p.val]

/-- Sets the binding of a port. -/
def State.setBinding (s : State) (p : Port) (b : Binding) : State :=
  { s with overlay := { s.overlay with bindings := s.overlay.bindings.set p.val (some b) } }

/-- The base value of a slot word: captured bytes where their marks are set, memory's bytes elsewhere (R136). -/
def State.baseWord (s : State) (r : SlotRecord) (w : HeaderIx) (a : WordAddr) : Word :=
  mergeBytes r.marks[w.val] (s.mem.readWord a) r.words[w.val]

/-- Word 2 as supplied: own node and the binding's receiver (R142). -/
def State.word2 (s : State) (receiver : Node) : Word := ofHalves s.identity.ownNode receiver

/-- The sent link of a pass on port `p` (R142). -/
def State.sentLinkOf (s : State) (t : Treatment) (receiver : Node) (p : Port) : Option LinkName :=
  if t ≠ .uncaptured ∧ notANode receiver = false ∧ receiver ≠ s.identity.ownNode then
    some { node := receiver, port := p }
  else none

/-- The binding is made: it is kept, and the sent link is written into the slot record (R140, R142). -/
def State.bindPass (s : State) (p : Port) (b : Binding) : State :=
  (s.setBinding p b).setSlot b.slot { s.slot b.slot with sentLink := s.sentLinkOf b.treatment b.receiver p }

/-- The own sequence of an own-origin pass is advanced (R144). -/
def State.advanceSequence (s : State) : Treatment → State
  | .ownHello => { s with overlay := { s.overlay with helloSeq := s.overlay.helloSeq + 1 } }
  | .ownNotice => { s with overlay := { s.overlay with noticeSeq := s.overlay.noticeSeq + 1 } }
  | .uncaptured | .unicastData | .broadcastData | .relayedNotice | .other => s

/-- The own sequence a binding carries (R135). -/
def State.ownSequence (s : State) : Treatment → Option Half
  | .ownHello => some s.overlay.helloSeq
  | .ownNotice => some s.overlay.noticeSeq
  | .uncaptured | .unicastData | .broadcastData | .relayedNotice | .other => none

/-- What slot `k` was doing ends for a transmit pass (R16, R148). -/
def State.endForSend (s : State) (k : SlotNo) : State :=
  let r := s.slot k
  match r.state with
  | .awaitingOutcome => s.count .outcomesLost
  | .inSend => (s.count .abandoned).dropPassBinding r.passPort
  | .vacant | .filling | .landed | .composed => s

/-- The port's pass on another slot ends as though word 6 had been read (R17, R148). -/
def State.supersedeOther (s : State) (p : Port) (k : SlotNo) : State :=
  match s.otherInSend p k with
  | none => s
  | some t => ((s.setSlot t ((s.slot t).passEnded s.newDeadline)).dropBinding p).count .abandoned

/-- The binding as a pass begins (R135, R137 to R139). -/
def State.newBinding (s : State) (k : SlotNo) (t : Treatment) (receiver : Node) : Binding :=
  let fwd := s.engine.state == .forwarding
  { slot := k, treatment := t, forwarding := fwd,
    how := if needsLookup t fwd then .awaiting else .noLookup
    receiver := receiver
    stamp := if t = .ownNotice then some 0 else none
    ownSeq := s.ownSequence t
    verdictLink := (s.slot k).verdictLink }

/-- Whether a word-2 read begins a pass on a slot in this state (R16). -/
def SlotState.startsPass : SlotState → Bool
  | .landed | .composed | .inSend | .awaitingOutcome => true
  | .vacant | .filling => false

/-- A transmit pass begins on slot `k` for port `p`: with no lookup the word is supplied at once, else the read
is held (R16, R17, R139, R142, R144). -/
def State.beginPass (s : State) (p : Port) (k : SlotNo) (a : WordAddr) : State :=
  let s1 := (s.endForSend k).supersedeOther p k
  let r : SlotRecord :=
    { s1.slot k with state := .inSend, passPort := some p, progress := 0, deadline := none, sentLink := none }
  let t := s1.treatmentOf r
  let s2 := (s1.setSlot k r).advanceSequence t
  let b := s2.newBinding k t (loHalf (s2.baseWord r 0 a))
  if b.how = .awaiting then
    State.setBinding { s2 with bus := { s2.bus with held := some (.passStart a p) } } p b
  else (s2.bindPass p b).answer (s2.word2 b.receiver)

/-! ### The pass-start lookup (R111, R140, R141) -/

/-- The node of a primary or alternate that is LIVE on port `p` (R140). -/
def State.nodeOnPort (s : State) (c : Option Choice) (p : Port) : Option Node :=
  match c with
  | none => none
  | some x => if s.isLive x.link ∧ (s.link x.link).port = p then some (s.link x.link).node else none

/-- The destination a lookup names: the final node of unicast data, the origin of a notice (R139). -/
def lookupDest (t : Treatment) (h : HeaderWords) : Node := if t = .unicastData then hdrFinal h else hdrOrigin h

/-- The entry a lookup finds; with none, an entry without primary or alternate answers alike (R111, R140). -/
def State.lookupEntry (s : State) (d : Node) : RouteEntry :=
  match s.findRoute d with
  | none => RouteEntry.empty
  | some i => s.route i

/-- The receiver without a route: the verdict link's node, else the captured receiver (R140, R141). -/
def Binding.fallbackReceiver (b : Binding) : Node :=
  match b.verdictLink with
  | some n => n.node
  | none => b.receiver

/-- The stamp a relayed notice carries for an answer (R140). -/
def State.relayStamp (s : State) (e : RouteEntry) : Nat :=
  match e.primary with
  | none => Config.unreachable
  | some c => if s.isLive c.link then c.total else Config.unreachable

/-- The binding from a lookup answer, with whether the pass is a stale send (R140). -/
def State.answeredBinding (s : State) (p : Port) (b : Binding) : Binding × Bool :=
  let e := s.lookupEntry (lookupDest b.treatment (s.slot b.slot).words)
  if b.treatment = .unicastData then
    match s.nodeOnPort e.primary p with
    | some n => ({ b with how := .answered, receiver := n }, false)
    | none =>
      match s.nodeOnPort e.alternate p with
      | some n => ({ b with how := .answered, receiver := n }, false)
      | none => ({ b with how := .answered, receiver := b.fallbackReceiver }, true)
  else ({ b with how := .answered, stamp := some (s.relayStamp e) }, false)

/-- The fallback binding (R141). -/
def Binding.lateBinding (b : Binding) : Binding :=
  if b.treatment = .unicastData then { b with how := .fallback, receiver := b.fallbackReceiver }
  else { b with how := .fallback, stamp := some Config.unreachable }

/-- Counts when a condition holds. -/
def State.countIf (s : State) (c : Bool) (k : Counter) : State := if c then s.count k else s

/-- The pass-start lookup is answered and the read released (R111, R140). -/
def State.answerLookup (s : State) (p : Port) (b : Binding) : State :=
  let r := s.answeredBinding p b
  ((s.bindPass p r.1).releaseRead (s.word2 r.1.receiver)).countIf r.2 .staleSends

/-- The lookup step when the arbiter grants it (R99, R111). -/
def State.lookupPassStart (s : State) : State :=
  if s.granted .overlay then
    match (List.finRange 3).find? s.awaitsLookup with
    | none => s
    | some p =>
      match s.binding p with
      | none => s
      | some b => s.afterOtherStep.answerLookup p b
  else s

/-- The hold limit runs out on a held word-2 read (R141). -/
def State.passStartHoldExpiry (s : State) : State :=
  match s.bus.held with
  | some (.passStart _ p) =>
    match s.binding p with
    | none => s
    | some b =>
      ((s.bindPass p b.lateBinding).releaseRead (s.word2 b.lateBinding.receiver)).count .lateBindings
  | _ => s

/-! ### Words 3 to 6 (R143 to R146) -/

/-- The word address of slot word `to` from that of slot word `at`, both header words. -/
def headerAddr (a : WordAddr) (at_ to_ : HeaderIx) : WordAddr := a - BitVec.ofNat 22 at_.val + BitVec.ofNat 22 to_.val

/-- The hop budget supplied, by the record's source (R143). -/
def SlotRecord.suppliedBudget (r : SlotRecord) : Nat :=
  if r.source = some .composed then hdrBudget r.words else hdrBudget r.words - 1

/-- Word 3 with the substitutions of a treatment (R143). -/
def suppliedWord3 (b : Binding) (r : SlotRecord) (base : Word) : Word :=
  if b.treatment = .uncaptured then base
  else
    let budgeted := (base &&& 0xFF00FFFF#32) ||| place 16 r.suppliedBudget
    match b.ownSeq with
    | none => budgeted
    | some q => (budgeted &&& 0xFFFF0000#32) ||| q.zeroExtend 32

/-- Word 5 with the substitutions of a treatment: the stamp of a notice, the interval of an own hello (R145). -/
def suppliedWord5 (cfg : Settings) (b : Binding) (base : Word) : Word :=
  match b.treatment with
  | .ownNotice | .relayedNotice => ofHalves (BitVec.ofNat 16 (b.stamp.getD Config.unreachable)) (loHalf base)
  | .ownHello => ofHalves (hiHalf base) (BitVec.ofNat 16 (cfg.sampleInterval / 10))
  | .uncaptured | .unicastData | .broadcastData | .other => base

/-- Word 6: the spare field from its base bytes and the regenerated check (R146). -/
def State.suppliedWord6 (s : State) (b : Binding) (w3 w4 w5 base : Word) : Word :=
  if b.treatment = .uncaptured then base
  else ofHalves (hiHalf base) (headerCheck s.identity.realmSeed w3 w4 w5 base)

/-- The word supplied to the pass port for a read of header word `w` at address `a` (R136, R143 to R146). -/
def State.suppliedWord (s : State) (b : Binding) (r : SlotRecord) (w : HeaderIx) (a : WordAddr) : Word :=
  let base (i : HeaderIx) := s.baseWord r i (headerAddr a w i)
  let w3 := suppliedWord3 b r (base 1)
  let w5 := suppliedWord5 s.settings b (base 3)
  match w.val with
  | 1 => w3
  | 2 => base 2
  | 3 => w5
  | 4 => s.suppliedWord6 b w3 (base 2) w5 (base 4)
  | _ => s.word2 b.receiver

/-- The pass port reads one of words 3..6: the word is supplied; word 6 ends the pass (R18, R146). -/
def State.readPassWord (s : State) (p : Port) (k : SlotNo) (w : HeaderIx) (a : WordAddr) : State :=
  let r := s.slot k
  match s.binding p with
  | none => s.readMem a
  | some b =>
    let s1 := s.answer (s.suppliedWord b r w a)
    if w = 4 then (s1.setSlot k (r.passEnded s.newDeadline)).dropBinding p
    else s1.setSlot k { r with progress := r.progress ||| (1#4 <<< (w.val - 1)) }

end Sys2Proof.Machine
end

