-- ==== Sys2Proof/Machine/Verdicts.lean ====
section
/-! DEFINITION. The Verdict Unit (chapter 3): stages, decision, flood cache, wait list, late releases, and the table
steps of notices and forwarding lookups. -/

namespace Sys2Proof.Machine

/-- A decided verdict (R41). -/
structure Verdict where
  code : VerdictCode
  mask : PortMask
  link : Option LinkName
  reason : Option RefusalReason
  deriving DecidableEq, Repr

/-- A verdict with mask 0 and neither link nor reason. -/
def Verdict.plain (c : VerdictCode) : Verdict := { code := c, mask := 0, link := none, reason := none }

/-- FLOOD or REBROADCAST with a mask. -/
def Verdict.masked (c : VerdictCode) (m : PortMask) : Verdict := { code := c, mask := m, link := none, reason := none }

/-- DROP-REFUSED with a reason. -/
def Verdict.refused (r : RefusalReason) : Verdict :=
  { code := .dropRefused, mask := 0, link := none, reason := some r }

/-- The mask of one port (R55). -/
def portBit (p : Port) : PortMask := 1#3 <<< p.val

/-- FORWARD over a link (R53). -/
def Verdict.forwardOver (n : LinkName) : Verdict :=
  { code := .forward, mask := portBit n.port, link := some n, reason := none }

/-- The verdict is written into the record of the landed slot while the record is the landing's own (R13). -/
def State.recordVerdict (s : State) (l : Landing) (v : Verdict) : State :=
  if l.current then
    s.setSlot l.slot { s.slot l.slot with verdict := v.code, verdictLink := v.link, refusal := v.reason }
  else s

/-- A decided verdict is counted, recorded, and answered while its write is held (R41, R62). -/
def State.announce (s : State) (l : Landing) (v : Verdict) : State :=
  let b := verdictByte v.code v.mask (s.staleFlag l.link)
  let s1 := (s.countAll (verdictCounters v.code v.reason)).recordVerdict l v
  if l.held then s1.releaseLanding b else s1

/-- The computation ends with a verdict (R41, R42). -/
def State.conclude (s : State) (l : Landing) (v : Verdict) : State :=
  State.announce { s with verdicts := { s.verdicts with work := none } } l v

/-- The computation goes on to wait for a table step. -/
def State.await (s : State) (l : Landing) (ph : WorkPhase) : State :=
  { s with verdicts := { s.verdicts with work := some { landing := l, phase := ph } } }

/-- Stage 2: the form of the frame (R45). -/
def Landing.malformed (l : Landing) : Bool :=
  decide (l.length < 20) || !allComplete l.marks || notANode (hdrOrigin l.words) ||
  (decide (3 ≤ hdrKind l.words) && decide (hdrKind l.words ≤ 11))

/-- The flood cache holds a pair (R52). -/
def State.floodHolds (s : State) (origin : Node) (seq : Half) : Bool :=
  s.verdicts.flood.any fun f => f.origin == origin && f.seq == seq

/-- The cache with a pair inserted at the tail, the head leaving a full cache (R52). -/
def insertFlood (fs : List FloodEntry) (origin : Node) (seq : Half) : List FloodEntry :=
  (if fs.length < Config.maxFlood then fs else fs.drop 1) ++ [{ origin := origin, seq := seq, age := 0 }]

/-- Broadcast data (R52). -/
def State.stageBroadcast (s : State) (l : Landing) : State :=
  let o := hdrOrigin l.words
  let q := hdrSequence l.words
  if s.floodHolds o q then s.conclude l (.plain .dropDuplicate)
  else
    let s1 := { s with verdicts := { s.verdicts with flood := insertFlood s.verdicts.flood o q } }
    if 1 ≤ hdrBudget l.words ∧ s1.livePorts ≠ 0 then s1.conclude l (.masked .flood s1.livePorts)
    else s1.conclude l (.plain .deliver)

/-- Stage 8: DATA (R51 to R53). -/
def State.stageData (s : State) (l : Landing) : State :=
  if hdrOrigin l.words = s.identity.ownNode then s.conclude l (.refused .loop)
  else if hdrFinal l.words = s.identity.ownNode then s.conclude l (.plain .deliver)
  else if hdrFinal l.words = broadcast then s.stageBroadcast l
  else if s.engine.state ≠ .forwarding then s.conclude l (.plain .undecided)
  else if hdrBudget l.words = 0 then s.conclude l (.plain .dropBudget)
  else s.await l .lookup

/-- Stage 7: NOTICE (R50). -/
def State.stageNotice (s : State) (l : Landing) : State :=
  if hdrOrigin l.words = s.identity.ownNode then s.conclude l (.plain .absorb)
  else
    s.await l (.learning s.livePorts (decide (1 ≤ hdrBudget l.words) && decide (s.livePorts ≠ 0)))

/-- Stage 6: HELLO (R48, R49). -/
def State.stageHello (s : State) (l : Landing) : State :=
  State.conclude
    ((s.takeHello l.link l.signal (hdrSequence l.words)).updateLinkFromFrame l.link l.signal l.rate) l
    (.plain .absorb)

/-- Stages 6 to 8, with the link update of R48. -/
def State.stageKinds (s : State) (l : Landing) : State :=
  if hdrKind l.words = 1 then s.stageHello l
  else
    let s1 := s.updateLinkFromFrame l.link l.signal l.rate
    if hdrKind l.words = 2 then s1.stageNotice l else s1.stageData l

/-- The stages, run until one decides or a table step is needed (R43 to R53). Stage 5 reads the bar list as it stands when it
runs, for a landing that has waited too (DESIGN CHOICE, log 31). -/
def State.runStages (s : State) (l : Landing) : State :=
  if l.linkError then s.conclude l (.plain .dropLinkError)
  else if l.malformed then s.conclude l (.plain .dropMalformed)
  else if checkOf s.identity.realmSeed l.words ≠ hdrCheck l.words then s.conclude l (.plain .dropCheck)
  else if 12 ≤ hdrKind l.words then s.conclude l (.plain .deliver)
  else if hdrReceiver l.words ≠ s.identity.ownNode ∧ hdrReceiver l.words ≠ broadcast then
    s.conclude l (.refused .notMine)
  else if hdrTransmitter l.words ∈ s.purge.bars then s.conclude l (.refused .barred)
  else s.stageKinds l

/-- A landing that finds the wait list full gets LATE at once (R42). -/
def State.overflow (s : State) (l : Landing) : State :=
  let b := verdictByte .late 0 (s.staleFlag l.link)
  let s1 := State.raise ((s.recordVerdict l (.plain .late)).count .lateVerdicts) .lateVerdict
  if l.held then s1.releaseLanding b else s1

/-- A landing handed to the Verdict Unit: computed at once when nothing is in progress or waiting, else it waits,
and with a full wait list it is LATE (R42, log 17). -/
def State.submit (s : State) (l : Landing) : State :=
  if s.verdicts.work.isNone && s.verdicts.waiting.isEmpty then s.runStages l
  else if s.verdicts.waiting.length < Config.maxWaiting then
    { s with verdicts := { s.verdicts with waiting := s.verdicts.waiting ++ [l] } }
  else s.overflow l

/-- A landing write reaches the Bus Tap: held when its verdict byte is enabled, else it passes to memory
(R11, R22). -/
def State.tapLanding (s : State) (a : WriteAccess) (n : LinkName) : State :=
  if a.be.getLsbD 0 then { s with bus := { s.bus with held := some (.landing a.addr a.data a.be n) } }
  else s.writeMem a.addr a.data a.be

/-- The landing of a frame (R11). -/
def State.land (s : State) (p : Port) (k : SlotNo) (a : WriteAccess) : State :=
  let r := s.slot k
  let l := landingOf k p r.words r.marks a.data a.be
  let s1 := s.setSlot k { r with state := .landed, landingPort := some p, passPort := none, verdict := .none }
  ((s1.count .framesLanded).tapLanding a l.link).submit l

/-- A stray landing: DROP-MALFORMED at its arrival (R12). -/
def State.landStray (s : State) (p : Port) (k : SlotNo) (a : WriteAccess) : State :=
  let r := SlotRecord.stray p
  let l := landingOf k p r.words r.marks a.data a.be
  let s1 := ((s.endForFill k).disownRecord k).setSlot k r
  ((s1.count .framesLanded).tapLanding a l.link).announce l (.plain .dropMalformed)

/-- The oldest waiting landing is taken when no computation is in progress (R42). -/
def State.takeWaiting (s : State) : State :=
  if s.inReset || s.verdicts.work.isSome then s
  else
    match s.verdicts.waiting with
    | [] => s
    | l :: ls => State.runStages { s with verdicts := { s.verdicts with waiting := ls } } l

/-- The hold limit runs out on a held landing (R60). -/
def State.landingHoldExpiry (s : State) : State :=
  match s.bus.held with
  | some (.landing _ _ _ n) =>
    let b := verdictByte .late 0 (s.staleFlag n)
    State.raise (((s.releaseLanding b).unholdLandings).count .lateVerdicts) .lateVerdict
  | _ => s

/-- What a notice's copy offers (R31, R50). -/
def Landing.offer (l : Landing) : Offer :=
  { origin := hdrOrigin l.words, seq := hdrSequence l.words, stamp := hdrStamp l.words,
    gateway := hdrGateway l.words }

/-- The learning step's result: the candidate update on entry content `e` at index `r`; storage goes to the waiting request of
the highest class, and the choosing step comes after its step (R104). -/
def State.learned (s : State) (l : Landing) (m : PortMask) (perm : Bool) (i : LinkIx) (r : RouteIx)
    (e : RouteEntry) : State :=
  (s.setRoute r (s.withOffer e i l.offer)).await l (.choosing m perm i s.firstWaiting)

/-- The learning step (R101 to R104). -/
def State.learn (s : State) (l : Landing) (m : PortMask) (perm : Bool) : State :=
  match s.findLink l.link with
  | none => s.conclude l (.plain .absorb)
  | some i =>
    if (s.link i).state.estimated then
      match s.findRoute (hdrOrigin l.words) with
      | some r =>
        match (s.route r).afterSequence l.offer with
        | none => s.conclude l (.plain .absorb)
        | some e => s.learned l m perm i r e
      | none =>
        match s.takeable with
        | some r =>
          s.learned l m perm i r
            (RouteEntry.taken (hdrOrigin l.words) (some (hdrSequence l.words)) (hdrGateway l.words))
        | none => ((s.count .tableFull).raise .tableFull).conclude l (.plain .absorb)
    else s.conclude l (.plain .absorb)

/-- The notice's sequence may still be rebroadcast (R105). -/
def RouteEntry.mayRebroadcast (e : RouteEntry) (q : Half) : Bool :=
  match e.lastRebroadcast with
  | none => true
  | some p => seqNewer q p

/-- The choosing step (R105). -/
def State.choose (s : State) (l : Landing) (m : PortMask) (perm : Bool) (i : LinkIx) : State :=
  match s.findRoute (hdrOrigin l.words) with
  | none => s.conclude l (.plain .absorb)
  | some r =>
    let s1 := s.reselect r (s.route r)
    let e := s1.route r
    if perm && e.mayRebroadcast (hdrSequence l.words) && choiceLink e.primary == some i then
      (s1.setRoute r { e with lastRebroadcast := some (hdrSequence l.words) }).conclude l (.masked .rebroadcast m)
    else s1.conclude l (.plain .absorb)

/-- A lookup that found no usable primary (R54). -/
def State.noPrimary (s : State) (l : Landing) : State :=
  let d := hdrFinal l.words
  if d ≠ 0 ∧ hdrFlowClass l.words ≤ 1 ∧ s.acceptsWanted d then
    (s.requestWanted d).conclude l (.plain .waitRoute)
  else s.conclude l (.plain .dropNoRoute)

/-- The forwarding lookup (R53, R110). -/
def State.lookupForward (s : State) (l : Landing) : State :=
  match s.findRoute (hdrFinal l.words) with
  | none => s.noPrimary l
  | some r =>
    match (s.route r).primary with
    | none => s.noPrimary l
    | some pr =>
      if s.isLive pr.link then s.conclude l (.forwardOver (s.linkName pr.link))
      else
        let s1 := s.reselect r (s.route r)
        match (s1.route r).primary with
        | none => s1.noPrimary l
        | some pr' => s1.conclude l (.forwardOver (s1.linkName pr'.link))

/-- The learning step when the arbiter grants it to a computation that waits for it (R99, R101). -/
def State.learningStep (s : State) : State :=
  if s.granted .verdict then
    match s.verdicts.work with
    | some { landing := l, phase := .learning m perm } => s.learn l m perm
    | _ => s
  else s

/-- The choosing step when the arbiter grants it (R99, R104, R105). -/
def State.choosingStep (s : State) : State :=
  if s.granted .verdict then
    match s.verdicts.work with
    | some { landing := l, phase := .choosing m perm i _ } => s.choose l m perm i
    | _ => s
  else s

/-- The forwarding lookup when the arbiter grants it (R99, R110). -/
def State.lookupStep (s : State) : State :=
  if s.granted .verdict then
    match s.verdicts.work with
    | some { landing := l, phase := .lookup } => s.lookupForward l
    | _ => s
  else s

end Sys2Proof.Machine
end

