-- ==== Sys2Proof/Machine/Report.lean ====
section
/-! DEFINITION. The report window and the snapshot layouts (R39, R40, R175; Tables 8 and 9 of chapter 2), and the claim
and complete acts of the event unit (R180, R181). -/

namespace Sys2Proof.Machine

/-- Several placed fields as one word. A bit of a report word that Table 8 of chapter 2 names no field for reads 0: the spec
gives it no value (DESIGN CHOICE, log 29). -/
def packed (fields : List Word) : Word := fields.foldl (fun w f => w ||| f) 0

/-! ### Codes of Table 8 and Table 9 -/

/-- Engine state codes (word 33). -/
def EngineState.code : EngineState → Nat
  | .transparent => 0 | .learning => 1 | .forwarding => 2

/-- Reset cause codes (word 34). -/
def ResetKind.code : ResetKind → Nat
  | .power => 1 | .line => 2 | .command => 3

/-- Result codes (word 35). -/
def Result.code : Result → Nat
  | .unknown => 0 | .done => 1 | .doneClamped => 2 | .badArgument => 3 | .unknownCommand => 4 | .wrongState => 5
  | .full => 6 | .notFound => 7

/-- Snapshot kinds (word 43). -/
def SnapshotKind.code : SnapshotKind → Nat
  | .none => 0 | .route => 1 | .link => 2 | .slot => 3 | .wanted => 4

/-- Route state codes. -/
def RouteState.code : RouteState → Nat
  | .empty => 0 | .active => 1 | .orphan => 2

/-- Link state codes. -/
def LinkState.code : LinkState → Nat
  | .free => 0 | .probation => 1 | .live => 2 | .weak => 3 | .lost => 4 | .purging => 5

/-- Slot state codes. -/
def SlotState.code : SlotState → Nat
  | .vacant => 0 | .filling => 1 | .landed => 2 | .composed => 3 | .inSend => 4 | .awaitingOutcome => 5

/-- Wanted state codes. -/
def WantedState.code : WantedState → Nat
  | .waiting => 1 | .found => 2 | .expired => 3

/-- Refusal reason codes (slot word 103). -/
def RefusalReason.code : RefusalReason → Nat
  | .notMine => 1 | .barred => 2 | .loop => 3

/-! ### Snapshot layouts (Table 9) -/

/-- An optional number at a place, zero when absent. -/
def placeOpt (lo : Nat) (n : Option Nat) : Word := place lo (n.getD 0)

/-- An optional flag bit: set when the value is present. -/
def presentBit {α : Type} (lo : Nat) (x : Option α) : Word := placeFlag lo x.isSome

/-- A primary or alternate word. -/
def choiceWord (c : Option Choice) : Word :=
  packed [presentBit 31 c, placeOpt 24 (c.map fun x => x.link.val), placeOpt 0 (c.map fun x => x.total)]

/-- The two words of candidate `i`. -/
def candidateWords (c : Option Candidate) : List Word :=
  [packed [presentBit 31 c, placeOpt 24 (c.map fun x => x.link.val), placeOpt 0 (c.map fun x => x.stamp)],
   placeOpt 16 (c.map fun x => x.heard.toNat)]

/-- The sixteen area words of a route entry. -/
def routeArea (e : RouteEntry) : List Word :=
  [packed [place 30 e.state.code, placeFlag 29 e.gateway, presentBit 28 e.latest, presentBit 27 e.lastRebroadcast,
      presentBit 26 e.pin, place 16 e.age, placeOpt 0 (e.latest.map fun q => q.toNat)],
   placeOpt 16 (e.lastRebroadcast.map fun q => q.toNat),
   choiceWord e.primary, choiceWord e.alternate,
   packed [placeOpt 16 (e.pin.map fun p => p.link.node.toNat), placeOpt 0 (e.pin.map fun p => p.cost)],
   packed [placeOpt 24 (e.pin.map fun p => p.link.port.val), place 0 e.candidates.length]] ++
  candidateWords e.candidates[0]? ++ candidateWords e.candidates[1]? ++ candidateWords e.candidates[2]? ++
  candidateWords e.candidates[3]?

/-- The area words of a neighbour entry. -/
def linkArea (l : Link) : List Word :=
  [packed [place 29 l.state.code, place 24 l.port.val, place 0 l.node.toNat],
   packed [place 16 l.qRx, place 0 l.qTx],
   packed [place 24 l.txSamples, placeFlag 23 l.heard, place 16 l.silent, place 12 l.probation, place 8 l.rate.val,
      (BitVec.ofInt 8 l.signal).zeroExtend 32],
   packed [place 16 l.helloSeq.toNat, place 0 l.cost]]

/-- The header-complete mark of a word as a number. -/
def completeBit (marks : HeaderMarks) (w : HeaderIx) : Word := placeFlag (20 + w.val) (headerComplete marks w)

/-- Words 96 and 97 of a slot record: state, source and marks. -/
def slotMarkWords (r : SlotRecord) : List Word :=
  [packed ([place 29 r.state.code, placeFlag 28 (r.source == some .composed)] ++
      (List.finRange 5).map (completeBit r.marks)),
   packed ((List.finRange 5).map fun w => place (16 - 4 * w.val) r.marks[w.val].toNat)]

/-- Words 103 to 105 of a slot record, at time `now`. -/
def slotTailWords (r : SlotRecord) (now : Nat) : List Word :=
  [packed [presentBit 31 r.landingPort, placeOpt 24 (r.landingPort.map fun p => p.val), place 16 r.verdict.toNat,
      presentBit 15 r.verdictLink, placeOpt 8 (r.verdictLink.map fun n => n.port.val),
      placeOpt 0 (r.refusal.map fun x => x.code)],
   packed [placeOpt 16 (r.verdictLink.map fun n => n.node.toNat), placeOpt 0 (r.sentLink.map fun n => n.node.toNat)],
   packed [presentBit 31 r.sentLink, placeOpt 24 (r.sentLink.map fun n => n.port.val), presentBit 23 r.passPort,
      placeOpt 16 (r.passPort.map fun p => p.val), place 8 r.progress.toNat, presentBit 15 r.deadline,
      placeOpt 0 (r.deadline.map fun t => t - now)]]

/-- The area words of a slot record. -/
def slotArea (r : SlotRecord) (now : Nat) : List Word := slotMarkWords r ++ r.words.toList ++ slotTailWords r now

/-- One wanted-list word. -/
def wantedWord (w : WantedEntry) : Word :=
  packed [place 16 w.dest.toNat, place 14 w.state.code, place 8 w.age, place 0 w.frames]

/-- The area from a list of words, zero after its end (R40). -/
def areaOf (ws : List Word) : Vector Word 16 := Vector.ofFn fun i : Fin 16 => ws[i.val]?.getD 0

/-- The copy of a READ command: header and area in one act (R40, R173). -/
def State.copySnapshot (s : State) (kind : SnapshotKind) (key : Half) (ws : List Word) : State :=
  { s with snapshot := { kind := kind, tag := s.command.tag, key := key, area := areaOf ws } }

/-! ### The report window (Table 8) -/

/-- A summary with bit k set for source k (R177). -/
def EventUnit.summary (u : EventUnit) (f : EventFlags → Bool) : Word :=
  packed ((List.finRange 12).map fun i => placeFlag (i.val + 1) (f (u.at i)))

/-- The counter word 43 + k: counter 2k − 1 in [31..16], counter 2k in [15..0]. -/
def State.counterWord (s : State) (k : Fin 8) : Word :=
  packed [place 16 s.counters[2 * k.val], place 0 s.counters[2 * k.val + 1]]

/-- The walker word (R120). With no walk in progress its next-entry field reads 0: the spec gives the field a value only while
walking and after a reset (DESIGN CHOICE, log 30). -/
def State.walkerWord (s : State) : Word :=
  packed [presentBit 31 s.walker.walk, placeOpt 16 (s.walker.walk.map fun w => w.next.val),
    place 8 s.walker.evict.length, placeFlag 2 s.walker.refresh, placeFlag 1 s.walker.flush]

/-- The status word (R164). -/
def CommandEngine.word (c : CommandEngine) : Word :=
  packed [place 24 c.code.toNat, place 16 c.tag.toNat, placeFlag 15 c.tagPresent, placeFlag 8 c.running,
    place 0 c.result.code]

/-- The refusal word (R165); reason 8 is BUSY. -/
def RefusalWord.word (r : RefusalWord) : Word :=
  packed [place 24 r.code.toNat, place 16 r.tag.toNat, placeFlag 15 r.present, place 0 (if r.present then 8 else 0)]

/-- The snapshot header (word 43). -/
def Snapshot.header (p : Snapshot) : Word :=
  packed [place 24 p.kind.code, place 16 p.tag.toNat, place 0 p.key.toNat]

/-- The engine word (R175). -/
def State.engineWord (s : State) : Word :=
  packed [place 24 s.engine.state.code, place 16 s.engine.settle, place 0 s.identity.ownNode.toNat]

/-- Link summary A: FREE, PROBATION, LIVE, WEAK in bytes 0 to 3 (R64). -/
def State.linkSummaryA (s : State) : Word :=
  packed [place 24 (s.linksIn .free), place 16 (s.linksIn .probation), place 8 (s.linksIn .live),
    place 0 (s.linksIn .weak)]

/-- Link summary B: LOST, PURGING in bytes 0 and 1 (R64). -/
def State.linkSummaryB (s : State) : Word := packed [place 24 (s.linksIn .lost), place 16 (s.linksIn .purging)]

/-- What a report word other than the claim word returns (R39, R175); the bits that no field names read 0 (log 29). -/
def State.reportWord (s : State) (w : Nat) : Word :=
  if h : 44 ≤ w ∧ w ≤ 51 then s.counterWord ⟨w - 44, by omega⟩
  else if h : 96 ≤ w ∧ w ≤ 111 then s.snapshot.area[w - 96]
  else
    match w with
    | 32 => Config.identityWord
    | 33 => s.engineWord
    | 34 => packed [place 24 s.cause.last.code, place 16 s.cause.count]
    | 35 => s.command.word
    | 36 => s.refusal.word
    | 38 => packed [s.events.summary EventFlags.pending, placeFlag 31 s.irqAsserted]
    | 39 => s.events.summary EventFlags.inService
    | 40 => s.linkSummaryA
    | 41 => s.linkSummaryB
    | 42 => s.walkerWord
    | 43 => s.snapshot.header
    | _ => 0

/-! ### Claim and complete -/

/-- A claim read (R180). -/
def State.claim (s : State) : State :=
  match s.events.choice with
  | none => s.answer 0
  | some i =>
    State.answer
      { s with events := s.events.put i { s.events.at i with pending := false, inService := true } }
      (place 0 (i.val + 1))

/-- A complete write for source number `n` (R181). -/
def State.completeSource (s : State) (n : Nat) : State :=
  if h : 1 ≤ n ∧ n ≤ 12 then
    let i : Fin 12 := ⟨n - 1, by omega⟩
    { s with events := s.events.put i { s.events.at i with inService := false } }
  else s

/-- The event unit's part of a write to the claim word (R181). -/
def State.completeWord (s : State) (data : Word) (be : Enables) : State :=
  if be.getLsbD 0 then s.completeSource (numField data 0 8) else s

end Sys2Proof.Machine
end

