-- ==== Sys2Proof/Machine/Commands.lean ====
section
/-! DEFINITION. The resets and the command engine (chapters 9 and 10): what each command of Table 7 of chapter 2 does when
its go write is taken, and the class-3 steps. A command's effect is a function of the state in which the status word,
the copy of A1..A3 and the go word in memory have already been written (R163). -/

namespace Sys2Proof.Machine

/-! ### Resets (R158 to R160) -/

/-- Every block at its reset value (Table 2 of chapter 9), the strap position, the reset cause record, packet memory, the
time base, the data lines and the queue kept. -/
def State.blockReset (s : State) : State :=
  { State.reset with
    pending := s.pending, now := s.now, mem := s.mem
    bus := { BusTap.reset s.bus.position with readData := s.bus.readData }
    cause := s.cause }

/-- The reset cause record after one more reset (R160). -/
def ResetCause.again (c : ResetCause) (k : ResetKind) : ResetCause := { last := k, count := min 255 (c.count + 1) }

/-- The straps are sampled (R1). -/
def State.sampleStraps (s : State) (straps : Fin 8) : State := { s with bus := { s.bus with position := straps } }

/-- A hardware reset begins: the part is inert, a held access is released unaltered and the work of its owner is discarded
(R24, R61, R141, R158, log 19). -/
def State.discardWork (s : State) : State :=
  let s1 := s.releaseUnaltered
  State.clearSlots
    { s1 with
      verdicts := VerdictUnit.reset
      overlay := { s1.overlay with bindings := Vector.replicate 3 none } }

/-- A hardware reset ends: the straps are sampled, every block is reset and the cause is recorded (R1, R158, R160). -/
def State.endReset (s : State) (straps : Fin 8) (cause : ResetCause) : State :=
  { s.blockReset.sampleStraps straps with cause := cause }

/-- The cause record after a power-on reset (R160). -/
def ResetCause.power : ResetCause := { last := .power, count := 0 }

/-- Power is applied: a power-on reset begins (R158). -/
def State.powerApplied (s : State) : State :=
  let s1 := s.discardWork
  { s1 with bus := { s1.bus with power := .rising } }

/-- Supplies and oscillator are stable: the power-on reset ends with cause POWER, unless RESET is low. Then the line's assertion
belongs to the power-on reset, and the part stays inert until its release (R158, log 20). -/
def State.powerStable (s : State) (straps : Fin 8) : State :=
  let s1 := s.discardWork
  if s.bus.resetLow then { s1 with bus := { s1.bus with power := .lineLow } } else s1.endReset straps ResetCause.power

/-- A power-on reset, at its beginning or at its end. -/
def State.powerOn (s : State) : PowerMoment → State
  | .applied => s.powerApplied
  | .stable straps => s.powerStable straps

/-- RESET goes low (R158). -/
def State.resetAsserted (s : State) : State :=
  let s1 := s.discardWork
  { s1 with bus := { s1.bus with resetLow := true } }

/-- RESET goes high: the reset ends with cause LINE; as part of a power-on reset it ends with cause POWER, or goes on while the
supplies are not stable (R158, R160). -/
def State.resetReleased (s : State) (straps : Fin 8) : State :=
  if s.bus.resetLow then
    match s.bus.power with
    | .ended => s.endReset straps (s.cause.again .line)
    | .lineLow => s.endReset straps ResetCause.power
    | .rising => { s with bus := { s.bus with resetLow := false } }
  else s

/-- RESTART (R159): every block is reset, the strap position kept, cause COMMAND; the status word names the RESTART with
no tag (R164). -/
def State.restart (s : State) : State :=
  { s.blockReset with
    cause := s.cause.again .command
    command := { CommandEngine.reset with code := 0x12, result := .done } }

/-! ### Arguments -/

/-- A1 as copied by the running or just taken command. -/
def State.arg1 (s : State) : Word := s.command.args[0]
/-- A2 as copied. -/
def State.arg2 (s : State) : Word := s.command.args[1]
/-- A3 as copied. -/
def State.arg3 (s : State) : Word := s.command.args[2]

/-! ### Identity, regions and roles (R167, R4, R3) -/

/-- A new own node takes the route entry and the wanted entry it may have out of their tables (R97). -/
def State.forgetNode (s : State) (d : Node) : State :=
  let s1 := { s with wanted := s.wanted.filter fun w => w.dest != d }
  match s1.findRoute d with
  | none => s1
  | some i => s1.setRoute i RouteEntry.empty

/-- SET IDENTITY (R167). -/
def State.setIdentity (s : State) : State :=
  if s.engineRuns then s.finish .wrongState
  else if notANode (hiHalf s.arg1) then s.finish .badArgument
  else
    State.finish
      { s.forgetNode (hiHalf s.arg1) with
        identity := { ownNode := hiHalf s.arg1, realmSeed := loHalf s.arg1 }
        overlay := { s.overlay with helloSeq := hiHalf s.arg2, noticeSeq := loHalf s.arg2 } } .done

/-- Two byte ranges share a byte. -/
def rangesMeet (a aLimit b bLimit : Nat) : Bool := decide (a < bLimit) && decide (b < aLimit)

/-- The first byte of the control strip (R1). -/
def stripBase (n : Fin 8) : Nat := n.val * 0x200000 + 0x1FFC00

/-- A region shares a byte with another present one than that at `ix` (R4). -/
def State.regionMeets (s : State) (ix : Fin 4) (r : Region) : Bool :=
  (List.finRange 4).any fun j =>
    j != ix &&
    match s.bus.regions[j.val] with
    | none => false
    | some q => rangesMeet r.base.toNat r.limit q.base.toNat q.limit

/-- The descriptors with the one at `ix` replaced. -/
def State.regionsWith (s : State) (ix : Fin 4) (r : Option Region) : Vector (Option Region) 4 :=
  s.bus.regions.set ix.val r

/-- The four conditions under which a present descriptor is refused (R4). -/
def State.regionRefused (s : State) (ix : Fin 4) (r : Region) : Bool :=
  r.base.toNat % r.slotSize != 0 || decide (Config.portSpace < r.limit) || s.regionMeets ix r ||
  rangesMeet r.base.toNat r.limit (stripBase s.bus.position) (stripBase s.bus.position + 1024) ||
  decide (Config.maxSlots < totalSlots (s.regionsWith ix (some r)).toList)

/-- A descriptor is written. -/
def State.putRegion (s : State) (ix : Fin 4) (r : Option Region) : State :=
  { s with bus := { s.bus with regions := s.regionsWith ix r } }

/-- SET REGION with index and size code in range (R4). -/
def State.changeRegion (s : State) (ix : Fin 4) (size : Fin 4) (count : Nat) : State :=
  let r : Region := { base := bitField s.arg1 0 24, sizeCode := size, count := count }
  if count = 0 then (s.putRegion ix none).finish .done
  else if s.regionRefused ix r then s.finish .badArgument
  else (s.putRegion ix (some r)).finish .done

/-- SET REGION (R4). -/
def State.setRegion (s : State) : State :=
  let ix := numField s.arg1 24 8
  let size := numField s.arg2 24 8
  let count := numField s.arg2 0 16
  if s.engineRuns then s.finish .wrongState
  else if h : ix < 4 ∧ size < 4 ∧ count ≤ 256 then s.changeRegion ⟨ix, h.1⟩ ⟨size, h.2.1⟩ count
  else s.finish .badArgument

/-- A role from its code (Table 7 of chapter 2). -/
def roleOf : Nat → Option Role
  | 0 => some .ignored
  | 1 => some .software
  | 2 => some (.mesh 0)
  | 3 => some (.mesh 1)
  | 4 => some (.mesh 2)
  | _ => none

/-- The role A1 gives initiator `i`: initiator 0 in [31..28] down to 7 in [3..0]. -/
def roleField (w : Word) (i : Initiator) : Option Role := roleOf (numField w (28 - 4 * i.val) 4)

/-- The roles of all eight initiators; a value that is no role stands as IGNORED and is refused. -/
def rolesOf (w : Word) : Vector Role 8 := Vector.ofFn fun i => (roleField w i).getD .ignored

/-- Some role value is no role, or two initiators get one mesh port (R3). -/
def rolesRefused (w : Word) : Bool :=
  ((List.finRange 8).any fun i => (roleField w i).isNone) ||
  (List.finRange 3).any fun p => decide (1 < (List.finRange 8).countP fun i => roleField w i == some (.mesh p))

/-- SET ROLES (R3). -/
def State.setRoles (s : State) : State :=
  if s.engineRuns then s.finish .wrongState
  else if rolesRefused s.arg1 then s.finish .badArgument
  else State.finish { s with bus := { s.bus with roles := rolesOf s.arg1 } } .done

/-! ### Settings (R168 to R170) -/

/-- DONE-CLAMPED when some field was clamped, else DONE. -/
def clampedResult (c : Bool) : Result := if c then .doneClamped else .done

/-- The timing fields of A1..A3 with their ranges: field value, least, greatest (Table 2 of chapter 10). -/
def timingFields (a1 a2 a3 : Word) : List (Nat × Nat × Nat) :=
  [(numField a1 24 8, 2, 255), (numField a1 16 8, 2, 255), (numField a1 12 4, 2, 15), (numField a1 8 4, 1, 7),
   (numField a1 4 4, 1, 15), (numField a2 24 8, 1, 63), (numField a2 16 8, 1, 63), (numField a2 8 8, 8, 255),
   (numField a2 0 8, 1, 255), (numField a3 0 8, 1, 255)]

/-- Some field lies outside its range. -/
def anyClamped (fields : List (Nat × Nat × Nat)) : Bool :=
  fields.any fun f => clampInto f.2.1 f.2.2 f.1 != f.1

/-- The settings after SET TIMING (Table 2 of chapter 10). -/
def Settings.withTiming (cfg : Settings) (a1 a2 a3 : Word) : Settings :=
  { cfg with
    sampleInterval := 10 * clampInto 2 255 (numField a1 24 8)
    routeExpiry := clampInto 2 255 (numField a1 16 8)
    deadLimit := clampInto 2 15 (numField a1 12 4)
    probation := clampInto 1 7 (numField a1 8 4)
    settle := clampInto 1 15 (numField a1 4 4)
    floodLifetime := clampInto 1 63 (numField a2 24 8)
    waitLimit := clampInto 1 63 (numField a2 16 8)
    holdLimit := clampInto 8 255 (numField a2 8 8)
    outcomeDeadline := clampInto 1 255 (numField a2 0 8)
    purgeWindow := clampInto 1 255 (numField a3 0 8) }

/-- The load mode's effect on a running sample timer (R156). -/
def State.reloadTimer (s : State) (immediate : Bool) : State :=
  if immediate && s.engine.nextExpiry.isSome then
    { s with engine := { s.engine with nextExpiry := some (s.now + s.settings.sampleInterval) } }
  else s

/-- SET TIMING (R168, R156). -/
def State.setTiming (s : State) : State :=
  State.finish
    (State.reloadTimer { s with settings := s.settings.withTiming s.arg1 s.arg2 s.arg3 } (s.arg1.getLsbD 0))
    (clampedResult (anyClamped (timingFields s.arg1 s.arg2 s.arg3)))

/-- A signal floor field clamped into −128..0 dBm (R169). -/
def clampFloor (b : Byte) : Int := if 0 < b.toInt then 0 else b.toInt

/-- The settings after SET METRIC (R169). -/
def Settings.withMetric (cfg : Settings) (a1 a2 : Word) : Settings :=
  { cfg with
    hopPenalty := numField a1 24 8
    hysteresis := clampInto 0 8 (numField a1 16 4)
    qualityFloor := clampInto 0 4096 (numField a1 0 13)
    signalFloor := clampFloor (bitField a2 0 8) }

/-- SET METRIC clamps a field. -/
def metricClamped (a1 a2 : Word) : Bool :=
  decide (8 < numField a1 16 4) || decide (4096 < numField a1 0 13) || decide (0 < (bitField a2 0 8).toInt)

/-- SET METRIC (R169). -/
def State.setMetric (s : State) : State :=
  State.finish { s with settings := s.settings.withMetric s.arg1 s.arg2 }
    (clampedResult (metricClamped s.arg1 s.arg2))

/-- The priority field of the source at place `i`: sources 1..8 in A1, 9..12 in A2 (Table 7 of chapter 2). -/
def priorityField (a1 a2 : Word) (i : Fin 12) : BitVec 4 :=
  if i.val < 8 then bitField a1 (28 - 4 * i.val) 4 else bitField a2 (28 - 4 * (i.val - 8)) 4

/-- A 4-bit priority or threshold clamped to 7 (R170). -/
def clampPriority (f : BitVec 4) : Fin 8 := if h : f.toNat < 8 then ⟨f.toNat, h⟩ else 7

/-- The event unit after SET EVENTS (R170, R182). -/
def EventUnit.withPriorities (u : EventUnit) (a1 a2 : Word) : EventUnit :=
  { sources := Vector.ofFn fun i => { u.at i with priority := clampPriority (priorityField a1 a2 i) }
    threshold := clampPriority (bitField a2 0 4) }

/-- SET EVENTS clamps a field. -/
def eventsClamped (a1 a2 : Word) : Bool :=
  (List.finRange 12).any (fun i => decide (7 < (priorityField a1 a2 i).toNat)) || decide (7 < numField a2 0 4)

/-- SET EVENTS (R170). -/
def State.setEvents (s : State) : State :=
  State.finish { s with events := s.events.withPriorities s.arg1 s.arg2 }
    (clampedResult (eventsClamped s.arg1 s.arg2))

/-! ### START and STOP (R150 to R153) -/

/-- The first condition of R150 that refuses START, if any. -/
def State.startRefusal (s : State) : Option Result :=
  if s.engineRuns then some .wrongState
  else if s.identity.ownNode = 0 then some .wrongState
  else if s.bus.regions.toList.all Option.isNone then some .badArgument
  else if (List.finRange 3).all fun p => !s.bus.roles.toList.contains (.mesh p) then some .badArgument
  else none

/-- The indexes of the LOST and PURGING links (R133). -/
def State.dyingLinks (s : State) : List LinkIx := allLinks.filter fun i => (s.link i).state.dying

/-- The effects of a START that passes its tests (R151). -/
def State.begin (s : State) : State :=
  let s1 := s.clearSlots
  let s2 := { s1 with
    verdicts := { s1.verdicts with flood := [] }
    engine := { state := .learning, settle := 0, nextExpiry := some (s.now + s.settings.sampleInterval) }
    purge := { s.purge with window := if s.purge.set.isEmpty then none else some (s.now + s.settings.purgeWindow) } }
  (s2.mergeEvict s.dyingLinks).beginWalk

/-- START (R150, R151). -/
def State.start (s : State) : State :=
  match s.startRefusal with
  | some r => s.finish r
  | none => s.begin.finish .done

/-- The effects of a STOP that is not refused (R153). -/
def State.halt (s : State) : State :=
  let s1 := s.clearSlots
  { s1 with
    engine := Engine.reset
    overlay := { s1.overlay with bindings := Vector.replicate 3 none }
    verdicts := { s1.verdicts with work := none, waiting := [] }
    metric := MetricUnit.reset
    outcomes := []
    purge := { s1.purge with window := none }
    walker := { s1.walker with walk := none } }

/-- STOP (R153). -/
def State.stop (s : State) : State := if s.engineRuns then s.halt.finish .done else s.finish .wrongState

/-! ### Pins (R113, R114) -/

/-- The argument errors of PIN ROUTE (R113). -/
def State.pinRefused (s : State) : Bool :=
  let d := hiHalf s.arg1
  let n := loHalf s.arg1
  notANode d || d == s.identity.ownNode || notANode n || n == s.identity.ownNode ||
  decide (2 < numField s.arg2 24 8) || loHalf s.arg2 == 0xFFFF#16

/-- PIN ROUTE at its go write (R113). -/
def State.pinRoute (s : State) : State := if s.pinRefused then s.finish .badArgument else s.goRunning

/-- A port from a number below 3. -/
def portOf (n : Nat) : Port := if h : n < 3 then ⟨n, h⟩ else 0

/-- The pin that PIN ROUTE names. -/
def State.pinNamed (s : State) : Pin :=
  { link := { node := loHalf s.arg1, port := portOf (numField s.arg2 24 8) }, cost := (loHalf s.arg2).toNat }

/-- The pin is set on entry content `e` at index `i`, with a selection, and the command completes (R113). -/
def State.pinEntry (s : State) (i : RouteIx) (e : RouteEntry) : State :=
  (s.reselect i { e with pin := some s.pinNamed }).completeRunning .done

/-- What PIN ROUTE does in its step (R113). -/
def State.pinStepBody (s : State) : State :=
  let d := hiHalf s.arg1
  match s.findRoute d with
  | some i => s.pinEntry i (s.route i)
  | none =>
    match s.takeable with
    | some i => s.pinEntry i (RouteEntry.taken d none false)
    | none => s.completeRunning .full

/-- UNPIN at its go write (R114). -/
def State.unpin (s : State) : State := s.goRunning

/-- What UNPIN does in its step (R114). -/
def State.unpinStepBody (s : State) : State :=
  match s.findRoute (hiHalf s.arg1) with
  | none => s.completeRunning .notFound
  | some i =>
    if (s.route i).pin.isSome then (s.reselect i { s.route i with pin := none }).completeRunning .done
    else s.completeRunning .notFound

/-! ### The purge set and the bar list (R80, R82, R83) -/

/-- The link PURGE ADD names; `none` when its node or port is in error. -/
def State.purgeNamed (s : State) : Option LinkName :=
  if h : numField s.arg1 8 8 < 3 then
    if notANode (hiHalf s.arg1) then none else some { node := hiHalf s.arg1, port := ⟨numField s.arg1 8 8, h⟩ }
  else none

/-- The bar flag of PURGE ADD. -/
def State.barFlag (s : State) : Bool := s.arg1.getLsbD 0

/-- The purge set has no room for a link that would have to join it (R80). -/
def State.purgeFull (s : State) (n : LinkName) (i : LinkIx) : Bool :=
  (s.link i).state.estimated && !s.purge.set.contains n && decide (Config.maxPurge ≤ s.purge.set.length)

/-- The bar list has no room for a node that would have to join it (R80). -/
def State.barFull (s : State) (n : LinkName) : Bool :=
  s.barFlag && !s.purge.bars.contains n.node && decide (Config.maxBarred ≤ s.purge.bars.length)

/-- The pair joins the purge set, and the window restarts (R80). -/
def State.joinPurge (s : State) (n : LinkName) : State :=
  { s with purge := { s.purge with
      set := if s.purge.set.contains n then s.purge.set else s.purge.set ++ [n]
      window := some (s.now + s.settings.purgeWindow) } }

/-- The node joins the bar list when the bar flag is set (R80). -/
def State.joinBars (s : State) (n : Node) : State :=
  if s.barFlag && !s.purge.bars.contains n then { s with purge := { s.purge with bars := s.purge.bars ++ [n] } } else s

/-- PURGE ADD (R80). -/
def State.purgeAdd (s : State) : State :=
  if !s.engineRuns then s.finish .wrongState
  else
    match s.purgeNamed with
    | none => s.finish .badArgument
    | some n =>
      match s.findLink n with
      | none => s.finish .notFound
      | some i =>
        if s.purgeFull n i || s.barFull n then s.finish .full
        else ((if (s.link i).state.estimated then s.joinPurge n else s).joinBars n.node).finish .done

/-- PURGE CANCEL (R82). -/
def State.purgeCancel (s : State) : State :=
  State.finish { s with purge := { s.purge with set := [], window := none } } .done

/-- UNBAR (R83). -/
def State.unbar (s : State) : State :=
  if s.purge.bars.contains (hiHalf s.arg1) then
    State.finish { s with purge := { s.purge with bars := s.purge.bars.filter fun n => n != hiHalf s.arg1 } } .done
  else s.finish .notFound

/-! ### Flush, reads and releases (R130, R171, R172, R119, R174) -/

/-- FLUSH ROUTES (R130). -/
def State.flushRoutes (s : State) : State :=
  if s.engineRuns then s.goRunning.requestFlush else s.finish .wrongState

/-- READ ROUTE at its go write (R172). -/
def State.readRoute (s : State) : State := s.goRunning

/-- What READ ROUTE does in its step (R172). -/
def State.readRouteStepBody (s : State) : State :=
  match s.findRoute (hiHalf s.arg1) with
  | none => s.completeRunning .notFound
  | some i => (s.copySnapshot .route (hiHalf s.arg1) (routeArea (s.route i))).completeRunning .done

/-- READ LINK (R171). -/
def State.readLink (s : State) : State :=
  if h : numField s.arg1 0 8 < 32 then
    (s.copySnapshot .link (BitVec.ofNat 16 (numField s.arg1 0 8)) (linkArea (s.link ⟨_, h⟩))).finish .done
  else s.finish .badArgument

/-- READ SLOT (R171). -/
def State.readSlot (s : State) : State :=
  if h : numField s.arg1 0 16 < 512 ∧ numField s.arg1 0 16 < s.slotCount then
    (s.copySnapshot .slot (loHalf s.arg1) (slotArea (s.slot ⟨_, h.1⟩) s.now)).finish .done
  else s.finish .badArgument

/-- READ WANTED at its go write (R172). -/
def State.readWanted (s : State) : State := s.goRunning

/-- What READ WANTED does in its step (R172, R119). -/
def State.readWantedStepBody (s : State) : State :=
  let s1 := s.copySnapshot .wanted 0 (s.wanted.map wantedWord)
  let s2 := if s.arg1.getLsbD 0 then { s1 with wanted := s.wanted.filter fun w => !w.releasable } else s1
  s2.completeRunning .done

/-- RELEASE WANTED at its go write (R119). -/
def State.releaseWanted (s : State) : State := s.goRunning

/-- What RELEASE WANTED does in its step (R119). -/
def State.releaseWantedStepBody (s : State) : State :=
  let d := hiHalf s.arg1
  if s.wanted.any fun w => w.dest == d && w.releasable then
    State.completeRunning { s with wanted := s.wanted.filter fun w => w.dest != d } .done
  else s.completeRunning .notFound

/-- CLEAR COUNTERS (R174). -/
def State.clearCounters (s : State) : State :=
  State.finish { s with counters := Vector.replicate 16 0 } .done

/-! ### Class-3 steps -/

/-- The class-3 step of the RUNNING command with a code, when the arbiter grants it (R99). -/
def State.commandStep (s : State) (code : Byte) (body : State → State) : State :=
  if s.granted .command && s.command.code == code then body s.afterOtherStep else s

/-! ### The go write (R162, R163, R165) -/

/-- A code that Table 7 of chapter 2 does not list (R163). -/
def State.unknown (s : State) : State := s.finish .unknownCommand

/-- What a taken command does, by its code. -/
def commandBody (code : Byte) : State → State :=
  if code = 0x01 then State.setIdentity else if code = 0x02 then State.setRegion
  else if code = 0x03 then State.setRoles else if code = 0x04 then State.setTiming
  else if code = 0x05 then State.setMetric else if code = 0x06 then State.setEvents
  else if code = 0x10 then State.start else if code = 0x11 then State.stop
  else if code = 0x12 then State.restart else if code = 0x20 then State.pinRoute
  else if code = 0x21 then State.unpin else if code = 0x22 then State.purgeAdd
  else if code = 0x23 then State.purgeCancel else if code = 0x24 then State.unbar
  else if code = 0x25 then State.flushRoutes else if code = 0x30 then State.readRoute
  else if code = 0x31 then State.readLink else if code = 0x32 then State.readSlot
  else if code = 0x33 then State.readWanted else if code = 0x34 then State.releaseWanted
  else if code = 0x35 then State.clearCounters else State.unknown

/-- A go write is taken: the status word and the copy of the arguments are written (R163). -/
def State.taken (s : State) (code tag : Byte) : State :=
  { s with command :=
      { code := code, tag := tag, tagPresent := true, running := false, result := .unknown
        args := Vector.ofFn fun i : Fin 3 => s.mailbox[i.val] } }

/-- A go write is refused with BUSY (R165). -/
def State.busy (s : State) (code tag : Byte) : State :=
  { s with refusal := { present := true, code := code, tag := tag } }

/-- A go write that passes the form test is refused with BUSY or taken (R162). -/
def State.takeCommand (s : State) (code tag : Byte) (body : State → State) : State :=
  if s.command.running then s.busy code tag else body (s.taken code tag)

/-- The go word: key, tag and code (R38). -/
def goWord (tag code : Byte) : Word := Config.goKey ++ tag ++ code

end Sys2Proof.Machine
end

