-- ==== Sys2Proof/Machine/Bus.lean ====
section
/-! DEFINITION. The Bus Tap's treatment of every access: the words of the control strip (R2), and the routing of accesses by
address, role, engine state and slot state (R6, sections 1.4 to 1.7). -/

namespace Sys2Proof.Machine

/-! ### Writes to the control strip (R2) -/

/-- A write to a strip word: it reaches memory, and takes effect unless a hardware reset is on (R2, R158). -/
def State.stripWrite (s : State) (w : Fin 256) (data : Word) (be : Enables) (effect : State → State) : State :=
  let s1 := s.writeStrip w data be
  if s.inReset then s1 else effect s1

/-- A go write with a given body (R162). -/
def State.goWrite (s : State) (code tag : Byte) (body : State → State) : State :=
  s.stripWrite 0 (goWord tag code) allEnables fun t => t.takeCommand code tag body

/-- A write to an argument word is latched (R161). -/
def State.latch (s : State) (l : Fin 6) (data : Word) (be : Enables) : State :=
  { s with mailbox := s.mailbox.set l.val (mergeBytes be s.mailbox[l.val] data) }

/-- A write to word 0: a stray go write, or a command (R162). -/
def State.wordZero (s : State) (data : Word) (be : Enables) : State :=
  if isGoForm data be then
    s.takeCommand (bitField data 0 8) (bitField data 8 8) (commandBody (bitField data 0 8))
  else s.count .strayGoWrites

/-- What a write to a strip word does besides reaching memory (R2). -/
def State.stripEffect (s : State) (w : Fin 256) (data : Word) (be : Enables) : State :=
  if w.val = 0 then s.wordZero data be
  else if h : 1 ≤ w.val ∧ w.val ≤ 6 then s.latch ⟨w.val - 1, by omega⟩ data be
  else if w.val = Config.claimWord then s.completeWord data be
  else s

/-- A write to any strip word. -/
def State.anyStripWrite (s : State) (w : Fin 256) (data : Word) (be : Enables) : State :=
  s.stripWrite w data be fun t => t.stripEffect w data be

/-- A claim read, or during a hardware reset a read of memory (R180, R158). -/
def State.claimAccess (s : State) : State :=
  if s.inReset then s.readMem (stripAddr s.bus.position 37) else s.claim

/-! ### Classes of accesses (R2, R6; Table 6 of chapter 1) -/

/-- What a write is to the part. -/
inductive WriteClass where
  | plain
  | strip (w : Fin 256)
  | software (k : SlotNo) (w : HeaderIx)
  | header (p : Port) (k : SlotNo) (w : HeaderIx)
  | landing (p : Port) (k : SlotNo)
  | stray (p : Port) (k : SlotNo)
  | matched (p : Port) (k : SlotNo)
  | unmatched (p : Port) (k : SlotNo)
  deriving DecidableEq, Repr

/-- What a read is to the part. -/
inductive ReadClass where
  | plain
  | claim
  | report (w : Fin 256)
  | passStart (p : Port) (k : SlotNo)
  | passWord (p : Port) (k : SlotNo) (w : HeaderIx)
  deriving DecidableEq, Repr

/-- A slot's word offset as a header word, words 2..6 (R5). -/
def headerIx (w : Nat) : Option HeaderIx := if h : 2 ≤ w ∧ w ≤ 6 then some ⟨w - 2, by omega⟩ else none

/-- Slot Capture sees slot accesses in LEARNING and FORWARDING, outside a hardware reset (R6, R158). -/
def State.captures (s : State) : Bool := s.engineRuns && !s.inReset

/-- A SOFTWARE write to word `w` of slot `k` (R14, R15). -/
def softwareWriteClass (k : SlotNo) (w : Nat) : WriteClass :=
  match headerIx w with
  | some h => .software k h
  | none => .plain

/-- A write by mesh port `p` to word `w` of slot `k` (R9, R11, R12, R19, R21). -/
def State.meshWriteClass (s : State) (p : Port) (k : SlotNo) (w : Nat) (be : Enables) : WriteClass :=
  if w = 0 then (if (s.slot k).fillingBy p then .landing p k else .stray p k)
  else if w = 1 then (if s.matchesOutcome p k be then .matched p k else .unmatched p k)
  else
    match headerIx w with
    | some h => .header p k h
    | none => .plain

/-- The class of a write (R2, R6). -/
def State.writeClass (s : State) (a : WriteAccess) : WriteClass :=
  match stripWordOf s.bus.position a.addr with
  | some w => .strip w
  | none =>
    if s.captures then
      match s.slotOf a.addr with
      | none => .plain
      | some (k, w) =>
        match s.role a.initiator with
        | .ignored => .plain
        | .software => softwareWriteClass k w
        | .mesh p => s.meshWriteClass p k w a.be
    else .plain

/-- A strip read: report-window words are answered by the part, unless a hardware reset is on (R2, R158). -/
def State.stripReadClass (s : State) (w : Fin 256) : ReadClass :=
  if s.inReset then .plain
  else if w.val = Config.claimWord then .claim
  else if 32 ≤ w.val ∧ w.val ≤ 127 then .report w
  else .plain

/-- A read by mesh port `p` of word `w` of slot `k` (R16, R18). -/
def State.meshReadClass (s : State) (p : Port) (k : SlotNo) (w : Nat) : ReadClass :=
  match headerIx w with
  | none => .plain
  | some h =>
    if h = 0 then (if (s.slot k).state.startsPass then .passStart p k else .plain)
    else if (s.slot k).state = .inSend ∧ (s.slot k).passPort = some p then .passWord p k h
    else .plain

/-- The class of a read (R2, R6). -/
def State.readClass (s : State) (a : ReadAccess) : ReadClass :=
  match stripWordOf s.bus.position a.addr with
  | some w => s.stripReadClass w
  | none =>
    if s.captures then
      match s.slotOf a.addr with
      | none => .plain
      | some (k, w) =>
        match s.role a.initiator with
        | .ignored | .software => .plain
        | .mesh p => s.meshReadClass p k w
    else .plain

/-! ### Accesses performed -/

/-- A write that the part does not hold reaches memory as it is (R6). -/
def State.passing (s : State) (a : WriteAccess) : State := s.writeMem a.addr a.data a.be

/-- A receive header write (R9). -/
def State.headerAccess (s : State) (p : Port) (k : SlotNo) (w : HeaderIx) (a : WriteAccess) : State :=
  (s.passing a).receiveHeader p k w a.data a.be

/-- A software header write (R14). -/
def State.softwareAccess (s : State) (k : SlotNo) (w : HeaderIx) (a : WriteAccess) : State :=
  (s.passing a).softwareHeader k w a.data a.be

/-- A matched outcome write (R19). -/
def State.matchedAccess (s : State) (k : SlotNo) (a : WriteAccess) : State := (s.passing a).takeOutcome k a.data

/-- An unmatched outcome write (R21). -/
def State.unmatchedAccess (s : State) (a : WriteAccess) : State := (s.passing a).count .outcomesLost

/-- A write with the effect of its class. -/
def State.performWrite (s : State) (a : WriteAccess) : State :=
  match s.writeClass a with
  | .plain => s.passing a
  | .strip w => s.anyStripWrite w a.data a.be
  | .software k w => s.softwareAccess k w a
  | .header p k w => s.headerAccess p k w a
  | .landing p k => s.land p k a
  | .stray p k => s.landStray p k a
  | .matched _ k => s.matchedAccess k a
  | .unmatched _ _ => s.unmatchedAccess a

/-- A read with the effect of its class. -/
def State.performRead (s : State) (a : ReadAccess) : State :=
  match s.readClass a with
  | .plain => s.readMem a.addr
  | .claim => s.claim
  | .report w => s.answer (s.reportWord w.val)
  | .passStart p k => s.beginPass p k a.addr
  | .passWord p k w => s.readPassWord p k w a.addr

end Sys2Proof.Machine
end

