-- ==== Sys2Proof/Machine/CommandRows.lean ====
section
/-! DEFINITION. The meanings of the rows that are go writes of commands (R163, Table 1 of chapter 10). -/

namespace Sys2Proof.Machine

/-- UNKNOWN_COMMAND (R163). -/
def execUnknownCommand (go : GoAccess) (code : Byte) (s : State) : Host.Outcome State Fault Refusal :=
  .next (s.onPort fun t => t.goWrite code go.tag (commandBody code))

/-- SET_IDENTITY (R167). -/
def execSetIdentity (go : GoAccess) (s : State) : Host.Outcome State Fault Refusal :=
  .next (s.onPort fun t => t.goWrite 0x01 go.tag State.setIdentity)

/-- SET_REGION (R4). -/
def execSetRegion (go : GoAccess) (s : State) : Host.Outcome State Fault Refusal :=
  .next (s.onPort fun t => t.goWrite 0x02 go.tag State.setRegion)

/-- SET_ROLES (R3). -/
def execSetRoles (go : GoAccess) (s : State) : Host.Outcome State Fault Refusal :=
  .next (s.onPort fun t => t.goWrite 0x03 go.tag State.setRoles)

/-- SET_TIMING (R168). -/
def execSetTiming (go : GoAccess) (s : State) : Host.Outcome State Fault Refusal :=
  .next (s.onPort fun t => t.goWrite 0x04 go.tag State.setTiming)

/-- SET_METRIC (R169). -/
def execSetMetric (go : GoAccess) (s : State) : Host.Outcome State Fault Refusal :=
  .next (s.onPort fun t => t.goWrite 0x05 go.tag State.setMetric)

/-- SET_EVENTS (R170). -/
def execSetEvents (go : GoAccess) (s : State) : Host.Outcome State Fault Refusal :=
  .next (s.onPort fun t => t.goWrite 0x06 go.tag State.setEvents)

/-- START (R150, R151). -/
def execStart (go : GoAccess) (s : State) : Host.Outcome State Fault Refusal :=
  .next (s.onPort fun t => t.goWrite 0x10 go.tag State.start)

/-- STOP (R153). -/
def execStop (go : GoAccess) (s : State) : Host.Outcome State Fault Refusal :=
  .next (s.onPort fun t => t.goWrite 0x11 go.tag State.stop)

/-- RESTART (R159). -/
def execRestart (go : GoAccess) (s : State) : Host.Outcome State Fault Refusal :=
  .next (s.onPort fun t => t.goWrite 0x12 go.tag State.restart)

/-- PIN_ROUTE (R113). -/
def execPinRoute (go : GoAccess) (s : State) : Host.Outcome State Fault Refusal :=
  .next (s.onPort fun t => t.goWrite 0x20 go.tag State.pinRoute)

/-- UNPIN (R114). -/
def execUnpin (go : GoAccess) (s : State) : Host.Outcome State Fault Refusal :=
  .next (s.onPort fun t => t.goWrite 0x21 go.tag State.unpin)

/-- PURGE_ADD (R80). -/
def execPurgeAdd (go : GoAccess) (s : State) : Host.Outcome State Fault Refusal :=
  .next (s.onPort fun t => t.goWrite 0x22 go.tag State.purgeAdd)

/-- PURGE_CANCEL (R82). -/
def execPurgeCancel (go : GoAccess) (s : State) : Host.Outcome State Fault Refusal :=
  .next (s.onPort fun t => t.goWrite 0x23 go.tag State.purgeCancel)

/-- UNBAR (R83). -/
def execUnbar (go : GoAccess) (s : State) : Host.Outcome State Fault Refusal :=
  .next (s.onPort fun t => t.goWrite 0x24 go.tag State.unbar)

/-- FLUSH_ROUTES (R130). -/
def execFlushRoutes (go : GoAccess) (s : State) : Host.Outcome State Fault Refusal :=
  .next (s.onPort fun t => t.goWrite 0x25 go.tag State.flushRoutes)

/-- READ_ROUTE (R172). -/
def execReadRoute (go : GoAccess) (s : State) : Host.Outcome State Fault Refusal :=
  .next (s.onPort fun t => t.goWrite 0x30 go.tag State.readRoute)

/-- READ_LINK (R171). -/
def execReadLink (go : GoAccess) (s : State) : Host.Outcome State Fault Refusal :=
  .next (s.onPort fun t => t.goWrite 0x31 go.tag State.readLink)

/-- READ_SLOT (R171). -/
def execReadSlot (go : GoAccess) (s : State) : Host.Outcome State Fault Refusal :=
  .next (s.onPort fun t => t.goWrite 0x32 go.tag State.readSlot)

/-- READ_WANTED (R172). -/
def execReadWanted (go : GoAccess) (s : State) : Host.Outcome State Fault Refusal :=
  .next (s.onPort fun t => t.goWrite 0x33 go.tag State.readWanted)

/-- RELEASE_WANTED (R119). -/
def execReleaseWanted (go : GoAccess) (s : State) : Host.Outcome State Fault Refusal :=
  .next (s.onPort fun t => t.goWrite 0x34 go.tag State.releaseWanted)

/-- CLEAR_COUNTERS (R174). -/
def execClearCounters (go : GoAccess) (s : State) : Host.Outcome State Fault Refusal :=
  .next (s.onPort fun t => t.goWrite 0x35 go.tag State.clearCounters)

end Sys2Proof.Machine
end

