-- ==== Sys2Proof/Machine/Resets.lean ====
section
/-! DEFINITION. The meanings of the three reset rows (section 9.4). -/

namespace Sys2Proof.Machine

/-- POWER_ON_RESET (R158, R160). -/
def execPowerOnReset (moment : PowerMoment) (s : State) : Host.Outcome State Fault Refusal :=
  .next (s.powerOn moment)

/-- RESET_LINE_ASSERTED (R158, R24). -/
def execResetLineAsserted  (s : State) : Host.Outcome State Fault Refusal :=
  .next s.resetAsserted

/-- RESET_LINE_RELEASED (R158, R160). -/
def execResetLineReleased (straps : Fin 8) (s : State) : Host.Outcome State Fault Refusal :=
  .next (s.resetReleased straps)

end Sys2Proof.Machine
end

