-- ==== Sys2Proof/Machine/SlotRows.lean ====
section
/-! DEFINITION. The meanings of the rows that are accesses to frame slots (R6, sections 1.4 to 1.7). -/

namespace Sys2Proof.Machine

/-- RECEIVE_HEADER_WRITE (R9); a write of another class has that class's effect (log 3). -/
def execReceiveHeaderWrite (a : WriteAccess) (s : State) : Host.Outcome State Fault Refusal :=
  .next (s.onPort fun t =>
    match t.writeClass a with
    | .header p k w => t.headerAccess p k w a
    | _ => t.performWrite a)

/-- LANDING (R11); a write of another class has that class's effect (log 3). -/
def execLanding (a : WriteAccess) (s : State) : Host.Outcome State Fault Refusal :=
  .next (s.onPort fun t =>
    match t.writeClass a with
    | .landing p k => t.land p k a
    | _ => t.performWrite a)

/-- STRAY_LANDING (R12); a write of another class has that class's effect (log 3). -/
def execStrayLanding (a : WriteAccess) (s : State) : Host.Outcome State Fault Refusal :=
  .next (s.onPort fun t =>
    match t.writeClass a with
    | .stray p k => t.landStray p k a
    | _ => t.performWrite a)

/-- SOFTWARE_HEADER_WRITE (R14); a write of another class has that class's effect (log 3). -/
def execSoftwareHeaderWrite (a : WriteAccess) (s : State) : Host.Outcome State Fault Refusal :=
  .next (s.onPort fun t =>
    match t.writeClass a with
    | .software k w => t.softwareAccess k w a
    | _ => t.performWrite a)

/-- MATCHED_OUTCOME (R19); a write of another class has that class's effect (log 3). -/
def execMatchedOutcome (a : WriteAccess) (s : State) : Host.Outcome State Fault Refusal :=
  .next (s.onPort fun t =>
    match t.writeClass a with
    | .matched _ k => t.matchedAccess k a
    | _ => t.performWrite a)

/-- UNMATCHED_OUTCOME (R21); a write of another class has that class's effect (log 3). -/
def execUnmatchedOutcome (a : WriteAccess) (s : State) : Host.Outcome State Fault Refusal :=
  .next (s.onPort fun t =>
    match t.writeClass a with
    | .unmatched _ _ => t.unmatchedAccess a
    | _ => t.performWrite a)

/-- TRANSMIT_PASS_START (R16); a read of another class has that class's effect (log 3). -/
def execTransmitPassStart (a : ReadAccess) (s : State) : Host.Outcome State Fault Refusal :=
  .next (s.onPort fun t =>
    match t.readClass a with
    | .passStart p k => t.beginPass p k a.addr
    | _ => t.performRead a)

/-- TRANSMIT_WORD_READ (R18); a read of another class has that class's effect (log 3). -/
def execTransmitWordRead (a : ReadAccess) (s : State) : Host.Outcome State Fault Refusal :=
  .next (s.onPort fun t =>
    match t.readClass a with
    | .passWord p k w => t.readPassWord p k w a.addr
    | _ => t.performRead a)

end Sys2Proof.Machine
end

