-- ==== Sys2Proof/Machine/StepRows.lean ====
section
/-! DEFINITION. The meanings of the rows that the part's own blocks make: class-3 steps, verdict work, lookups, expiries, jobs,
sweeps and walks. -/

namespace Sys2Proof.Machine

/-- PIN_ROUTE_STEP (R113). -/
def execPinRouteStep  (s : State) : Host.Outcome State Fault Refusal :=
  .next (s.commandStep 0x20 State.pinStepBody)

/-- UNPIN_STEP (R114). -/
def execUnpinStep  (s : State) : Host.Outcome State Fault Refusal :=
  .next (s.commandStep 0x21 State.unpinStepBody)

/-- READ_ROUTE_STEP (R172). -/
def execReadRouteStep  (s : State) : Host.Outcome State Fault Refusal :=
  .next (s.commandStep 0x30 State.readRouteStepBody)

/-- READ_WANTED_STEP (R172). -/
def execReadWantedStep  (s : State) : Host.Outcome State Fault Refusal :=
  .next (s.commandStep 0x33 State.readWantedStepBody)

/-- RELEASE_WANTED_STEP (R119). -/
def execReleaseWantedStep  (s : State) : Host.Outcome State Fault Refusal :=
  .next (s.commandStep 0x34 State.releaseWantedStepBody)

/-- VERDICT_WAIT_LIST_TAKE (R42). -/
def execVerdictWaitListTake  (s : State) : Host.Outcome State Fault Refusal :=
  .next s.takeWaiting

/-- LANDING_HOLD_EXPIRY (R60). -/
def execLandingHoldExpiry  (s : State) : Host.Outcome State Fault Refusal :=
  .next s.landingHoldExpiry

/-- NOTICE_LEARNING_STEP (R101). -/
def execNoticeLearningStep  (s : State) : Host.Outcome State Fault Refusal :=
  .next s.learningStep

/-- NOTICE_CHOOSING_STEP (R105). -/
def execNoticeChoosingStep  (s : State) : Host.Outcome State Fault Refusal :=
  .next s.choosingStep

/-- FORWARDING_LOOKUP (R110). -/
def execForwardingLookup  (s : State) : Host.Outcome State Fault Refusal :=
  .next s.lookupStep

/-- PASS_START_LOOKUP (R111). -/
def execPassStartLookup  (s : State) : Host.Outcome State Fault Refusal :=
  .next s.lookupPassStart

/-- PASS_START_HOLD_EXPIRY (R141). -/
def execPassStartHoldExpiry  (s : State) : Host.Outcome State Fault Refusal :=
  .next s.passStartHoldExpiry

/-- OUTCOME_JOB (R71). -/
def execOutcomeJob  (s : State) : Host.Outcome State Fault Refusal :=
  .next s.outcomeJob

/-- SAMPLE_EXPIRY (R157). -/
def execSampleExpiry  (s : State) : Host.Outcome State Fault Refusal :=
  .next s.sampleExpiry

/-- SWEEP_BEGIN (R70, R86). -/
def execSweepBegin  (s : State) : Host.Outcome State Fault Refusal :=
  .next s.sweepBegin

/-- SWEEP_VISIT (R73). -/
def execSweepVisit  (s : State) : Host.Outcome State Fault Refusal :=
  .next s.sweepVisit

/-- PURGE_WINDOW_EXPIRY (R81). -/
def execPurgeWindowExpiry  (s : State) : Host.Outcome State Fault Refusal :=
  .next s.purgeWindowExpiry

/-- WALKER_STEP (R123). -/
def execWalkerStep  (s : State) : Host.Outcome State Fault Refusal :=
  .next s.walkerStep

/-- OUTCOME_DEADLINE_EXPIRY (R20). -/
def execOutcomeDeadlineExpiry (k : SlotNo) (s : State) : Host.Outcome State Fault Refusal :=
  .next (s.expireDeadline k)

end Sys2Proof.Machine
end

