-- ==== Sys2Proof/Machine/StripRows.lean ====
section
/-! DEFINITION. The meanings of the rows that are accesses to the control strip, go writes that are commands apart
(R2, R161, R162, R180, R181). -/

namespace Sys2Proof.Machine

/-- ARGUMENT_WORD_WRITE (R161). -/
def execArgumentWordWrite (l : Fin 6) (data : Word) (be : Enables) (s : State) : Host.Outcome State Fault Refusal :=
  .next (s.onPort fun t => t.stripWrite ⟨l.val + 1, by omega⟩ data be fun u => u.latch l data be)

/-- STRAY_GO_WRITE (R162). -/
def execStrayGoWrite (data : Word) (be : Enables) (s : State) : Host.Outcome State Fault Refusal :=
  .next (s.onPort fun t => t.stripWrite 0 data be fun u => u.wordZero data be)

/-- CLAIM_READ (R180); its byte enables decide nothing. -/
def execClaimRead (_be : Enables) (s : State) : Host.Outcome State Fault Refusal :=
  .next (s.onPort State.claimAccess)

/-- COMPLETE_WRITE (R181). -/
def execCompleteWrite (data : Word) (be : Enables) (s : State) : Host.Outcome State Fault Refusal :=
  .next (s.onPort fun t => t.stripWrite 37 data be fun u => u.completeWord data be)

/-- REPORT_WINDOW_WRITE (R2). -/
def execReportWindowWrite (w : Fin 256) (data : Word) (be : Enables) (s : State) : Host.Outcome State Fault Refusal :=
  .next (s.onPort fun t => t.anyStripWrite w data be)

end Sys2Proof.Machine
end

