-- ==== Sys2Proof/Machine/Dispatch.lean ====
section
/-! DEFINITION. What each command does: one arm per row of spec/opcode_table.json. -/

namespace Sys2Proof.Machine

/-- The effect of a command on everything but the queue. -/
def exec (i : Instr) (s : State) : Host.Outcome State Fault Refusal :=
  match i with
  | .powerOnReset moment => Sys2Proof.Machine.execPowerOnReset moment s
  | .resetLineAsserted => Sys2Proof.Machine.execResetLineAsserted s
  | .resetLineReleased straps => Sys2Proof.Machine.execResetLineReleased straps s
  | .argumentWordWrite _ l data be => Sys2Proof.Machine.execArgumentWordWrite l data be s
  | .strayGoWrite _ data be => Sys2Proof.Machine.execStrayGoWrite data be s
  | .unknownCommand go code => Sys2Proof.Machine.execUnknownCommand go code s
  | .setIdentity go => Sys2Proof.Machine.execSetIdentity go s
  | .setRegion go => Sys2Proof.Machine.execSetRegion go s
  | .setRoles go => Sys2Proof.Machine.execSetRoles go s
  | .setTiming go => Sys2Proof.Machine.execSetTiming go s
  | .setMetric go => Sys2Proof.Machine.execSetMetric go s
  | .setEvents go => Sys2Proof.Machine.execSetEvents go s
  | .start go => Sys2Proof.Machine.execStart go s
  | .stop go => Sys2Proof.Machine.execStop go s
  | .restart go => Sys2Proof.Machine.execRestart go s
  | .pinRoute go => Sys2Proof.Machine.execPinRoute go s
  | .pinRouteStep => Sys2Proof.Machine.execPinRouteStep s
  | .unpin go => Sys2Proof.Machine.execUnpin go s
  | .unpinStep => Sys2Proof.Machine.execUnpinStep s
  | .purgeAdd go => Sys2Proof.Machine.execPurgeAdd go s
  | .purgeCancel go => Sys2Proof.Machine.execPurgeCancel go s
  | .unbar go => Sys2Proof.Machine.execUnbar go s
  | .flushRoutes go => Sys2Proof.Machine.execFlushRoutes go s
  | .readRoute go => Sys2Proof.Machine.execReadRoute go s
  | .readRouteStep => Sys2Proof.Machine.execReadRouteStep s
  | .readLink go => Sys2Proof.Machine.execReadLink go s
  | .readSlot go => Sys2Proof.Machine.execReadSlot go s
  | .readWanted go => Sys2Proof.Machine.execReadWanted go s
  | .readWantedStep => Sys2Proof.Machine.execReadWantedStep s
  | .releaseWanted go => Sys2Proof.Machine.execReleaseWanted go s
  | .releaseWantedStep => Sys2Proof.Machine.execReleaseWantedStep s
  | .clearCounters go => Sys2Proof.Machine.execClearCounters go s
  | .claimRead _ be => Sys2Proof.Machine.execClaimRead be s
  | .completeWrite _ data be => Sys2Proof.Machine.execCompleteWrite data be s
  | .reportWindowWrite _ w data be => Sys2Proof.Machine.execReportWindowWrite w data be s
  | .receiveHeaderWrite access => Sys2Proof.Machine.execReceiveHeaderWrite access s
  | .landing access => Sys2Proof.Machine.execLanding access s
  | .strayLanding access => Sys2Proof.Machine.execStrayLanding access s
  | .verdictWaitListTake => Sys2Proof.Machine.execVerdictWaitListTake s
  | .landingHoldExpiry => Sys2Proof.Machine.execLandingHoldExpiry s
  | .noticeLearningStep => Sys2Proof.Machine.execNoticeLearningStep s
  | .noticeChoosingStep => Sys2Proof.Machine.execNoticeChoosingStep s
  | .forwardingLookup => Sys2Proof.Machine.execForwardingLookup s
  | .transmitPassStart access => Sys2Proof.Machine.execTransmitPassStart access s
  | .passStartLookup => Sys2Proof.Machine.execPassStartLookup s
  | .passStartHoldExpiry => Sys2Proof.Machine.execPassStartHoldExpiry s
  | .transmitWordRead access => Sys2Proof.Machine.execTransmitWordRead access s
  | .softwareHeaderWrite access => Sys2Proof.Machine.execSoftwareHeaderWrite access s
  | .matchedOutcome access => Sys2Proof.Machine.execMatchedOutcome access s
  | .unmatchedOutcome access => Sys2Proof.Machine.execUnmatchedOutcome access s
  | .outcomeDeadlineExpiry slot => Sys2Proof.Machine.execOutcomeDeadlineExpiry slot s
  | .outcomeJob => Sys2Proof.Machine.execOutcomeJob s
  | .sampleExpiry => Sys2Proof.Machine.execSampleExpiry s
  | .sweepBegin => Sys2Proof.Machine.execSweepBegin s
  | .sweepVisit => Sys2Proof.Machine.execSweepVisit s
  | .purgeWindowExpiry => Sys2Proof.Machine.execPurgeWindowExpiry s
  | .walkerStep => Sys2Proof.Machine.execWalkerStep s

end Sys2Proof.Machine
end

