-- ==== Sys2Proof/Machine/Step.lean ====
section
/-! DEFINITION. One step: the command at the front of the queue, or one millisecond of the time base. -/

namespace Sys2Proof.Machine

/-- One millisecond passes on the time base; the part idles otherwise (R154, log 5). -/
def State.tick (s : State) : State := { s with now := s.now + 1 }

/-- Takes the command at the front of the queue; on an empty queue one millisecond passes (log 5). -/
def step (s : State) : Host.Outcome State Fault Refusal :=
  match s.pending with
  | [] => .next s.tick
  | c :: rest => exec c { s with pending := rest }

/-- The state with the command that a word spells at the front of the queue: no word spells one (log 28). -/
def State.withFetchWord (s : State) (nbits w : Nat) : State :=
  match decodeTableWord nbits w with
  | none => s
  | some c => { s with pending := c :: s.pending }

end Sys2Proof.Machine
end

