-- ==== Sys2Proof/Safety.lean ====
section
/-! DEFINITION. What holds in every state of the part that a run can reach: the invariants that the statements for the
provers name. Each is a conjunction of facts that the spec gives about one kind of state. -/

namespace Sys2Proof.Machine

/-! ### Capacities and ranges -/

/-- No list holds more than the spec gives it places for: wait list (R42), flood cache (R57), outcome queue (R69), purge set
(R79), bar list (R83), candidates (R96), wanted list (R115); and the pending evict set and that of the walk in progress hold each
of the 32 link indexes at most once (R120). -/
def State.withinCapacity (s : State) : Prop :=
  s.verdicts.waiting.length ≤ Config.maxWaiting ∧ s.verdicts.flood.length ≤ Config.maxFlood ∧
  s.outcomes.length ≤ Config.maxOutcomes ∧ s.purge.set.length ≤ Config.maxPurge ∧
  s.purge.bars.length ≤ Config.maxBarred ∧ s.wanted.length ≤ Config.maxWanted ∧
  (∀ i, (s.route i).candidates.length ≤ Config.maxCandidates) ∧
  s.walker.evict.Nodup ∧ ∀ w ∈ s.walker.walk, w.evict.Nodup

/-- Every setting lies in its range (Table 2 of chapter 10). -/
def Settings.inRange (c : Settings) : Prop :=
  (20 ≤ c.sampleInterval ∧ c.sampleInterval ≤ 2550) ∧ (2 ≤ c.routeExpiry ∧ c.routeExpiry ≤ 255) ∧
  (2 ≤ c.deadLimit ∧ c.deadLimit ≤ 15) ∧ (1 ≤ c.probation ∧ c.probation ≤ 7) ∧ (1 ≤ c.settle ∧ c.settle ≤ 15) ∧
  (1 ≤ c.floodLifetime ∧ c.floodLifetime ≤ 63) ∧ (1 ≤ c.waitLimit ∧ c.waitLimit ≤ 63) ∧
  (8 ≤ c.holdLimit ∧ c.holdLimit ≤ 255) ∧ (1 ≤ c.outcomeDeadline ∧ c.outcomeDeadline ≤ 255) ∧
  (1 ≤ c.purgeWindow ∧ c.purgeWindow ≤ 255) ∧ c.hopPenalty ≤ 255 ∧ c.hysteresis ≤ 8 ∧ c.qualityFloor ≤ 4096 ∧
  (-128 ≤ c.signalFloor ∧ c.signalFloor ≤ 0)

/-- The fields of a neighbour entry lie in the ranges of Table 1 of chapter 4 (R63). -/
def Link.inRange (l : Link) : Prop :=
  l.qRx ≤ 4096 ∧ l.qTx ≤ 4096 ∧ l.txSamples ≤ 255 ∧ l.silent ≤ 15 ∧ l.probation ≤ 7 ∧
  (1 ≤ l.cost ∧ l.cost ≤ 16383) ∧ (-128 ≤ l.signal ∧ l.signal ≤ 127) ∧ (l.state = .probation → l.probation < 7)

/-- A wanted entry's age is 0..63 and its frame count 1..255 (R115). -/
def WantedEntry.inRange (w : WantedEntry) : Prop :=
  w.age ≤ 63 ∧ (w.state = .waiting → w.age < 63) ∧ 1 ≤ w.frames ∧ w.frames ≤ 255

/-- A route entry's age is 0..255, its totals and its pin cost are 0..65534 and its stamps 0..65535 (R96). -/
def RouteEntry.inRange (e : RouteEntry) : Prop :=
  e.age ≤ 255 ∧ (∀ c ∈ e.primary, c.total ≤ 65534) ∧ (∀ c ∈ e.alternate, c.total ≤ 65534) ∧
  (∀ p ∈ e.pin, p.cost ≤ 65534) ∧ ∀ c ∈ e.candidates, c.stamp ≤ 65535

/-- Every number of the state lies in the range the spec gives it: the settings (Table 2 of chapter 10), link fields (R63),
wanted entries (R115), route entries (R96), flood ages, which never rise from head to tail (R57), outcome attempts (R69), region
counts (R4), counters (R174), the reset count (R160) and the settle count (R152). A PIN ROUTE that is RUNNING holds a cost and
a port that a pin may have (R113), and a waiting landing a signal level that a link may take (R35). -/
def State.inRange (s : State) : Prop :=
  s.settings.inRange ∧ (∀ i, (s.link i).inRange) ∧ (∀ w ∈ s.wanted, w.inRange) ∧ (∀ i, (s.route i).inRange) ∧
  (∀ f ∈ s.verdicts.flood, f.age ≤ 62) ∧ s.verdicts.flood.Pairwise (fun f g => g.age ≤ f.age) ∧
  (∀ o ∈ s.outcomes, o.attempts ≤ 15) ∧
  (∀ (j : Fin 4) (r : Region), s.bus.regions[j.val] = some r → 1 ≤ r.count ∧ r.count ≤ 256) ∧
  (∀ c, s.counter c ≤ 65535) ∧ s.cause.count ≤ 255 ∧ s.engine.settle ≤ 15 ∧
  (s.engine.state = .learning → s.engine.settle < 15) ∧
  (s.command.running = true → s.command.code = 0x20#8 →
    loHalf s.arg2 ≠ 0xFFFF#16 ∧ s.arg2.toNat / 0x1000000 ≤ 2) ∧
  ∀ l ∈ s.verdicts.waiting, -128 ≤ l.signal ∧ l.signal ≤ 127

/-! ### No duplicates -/

/-- The region descriptors are as R4 takes them: each has 1..256 slots, a base that is a multiple of its slot size and its last
byte inside the port space; none shares a byte with another or with the control strip; and all have at most 512 slots. -/
def State.regionsFit (s : State) : Prop :=
  (∀ (j : Fin 4) (r : Region), s.bus.regions[j.val] = some r →
    1 ≤ r.count ∧ r.count ≤ 256 ∧ r.base.toNat % r.slotSize = 0 ∧ r.limit ≤ 0x1000000 ∧
    (r.limit ≤ s.bus.position.val * 0x200000 + 0x1FFC00 ∨
      s.bus.position.val * 0x200000 + 0x200000 ≤ r.base.toNat)) ∧
  (∀ (j k : Fin 4) (q r : Region), j ≠ k → s.bus.regions[j.val] = some q → s.bus.regions[k.val] = some r →
    q.limit ≤ r.base.toNat ∨ r.limit ≤ q.base.toNat) ∧
  totalSlots s.bus.regions.toList ≤ 512

/-- No list or table holds a thing twice: one non-FREE entry at most for a link, and none for node 0 or 65535 (R65, R26); one
candidate at most over a link (R104); one wanted entry for a destination (R115); one flood entry for a pair (R57); a link once in
the purge set (R79) and a node once on the bar list (R83); a mesh port given to one initiator (R3); and regions that fit (R4). -/
def State.noDuplicates (s : State) : Prop :=
  (∀ i j, (s.link i).state ≠ .free → (s.link j).state ≠ .free → s.linkName i = s.linkName j → i = j) ∧
  (∀ i, (s.link i).state ≠ .free → (s.link i).node ≠ 0 ∧ (s.link i).node ≠ 0xFFFF#16) ∧
  (∀ r, ((s.route r).candidates.map fun c => c.link).Nodup) ∧ (s.wanted.map fun w => w.dest).Nodup ∧
  (s.verdicts.flood.map fun f => (f.origin, f.seq)).Nodup ∧ s.purge.set.Nodup ∧ s.purge.bars.Nodup ∧
  (∀ i j p, s.role i = .mesh p → s.role j = .mesh p → i = j) ∧ s.regionsFit

/-! ### TRANSPARENT -/

/-- Nothing runs: what STOP and the resets leave (R153, Table 2 of chapter 9). -/
def State.quiet (s : State) : Prop :=
  (∀ k, s.slot k = SlotRecord.vacant) ∧ s.verdicts.work = none ∧ s.verdicts.waiting = [] ∧ s.bus.held = none ∧
  s.outcomes = [] ∧ s.metric = MetricUnit.reset ∧ s.purge.window = none ∧ s.walker.walk = none ∧
  s.engine.nextExpiry = none ∧ s.engine.settle = 0 ∧ ∀ p, s.binding p = none

/-- In TRANSPARENT nothing runs (R149). -/
def State.transparentIsQuiet (s : State) : Prop := s.engine.state = .transparent → s.quiet

/-! ### Routes and links -/

/-- The link indexes an entry names (R96). -/
def RouteEntry.names (e : RouteEntry) (i : LinkIx) : Prop :=
  (∃ c ∈ e.candidates, c.link = i) ∨ (∃ c ∈ e.primary, c.link = i) ∨ ∃ c ∈ e.alternate, c.link = i

/-- No route entry names a FREE link (R128), with what keeps it so: an EMPTY entry names none; the links of the pending evict
set and of the walk's are LOST or PURGING and in one of the two alone; the entries a walk has visited no longer name its
links; and no walk goes on in TRANSPARENT. -/
def State.routesNameLinks (s : State) : Prop :=
  (∀ r i, (s.route r).names i → (s.link i).state ≠ .free) ∧
  (∀ r, (s.route r).state = .empty → s.route r = RouteEntry.empty) ∧
  (∀ i ∈ s.walker.evict, (s.link i).state.dying = true) ∧
  (∀ w ∈ s.walker.walk,
    (∀ i ∈ w.evict, (s.link i).state.dying = true ∧ i ∉ s.walker.evict) ∧
    ∀ (r : RouteIx) (i : LinkIx), r < w.next → (s.route r).names i → i ∉ w.evict) ∧
  (s.engine.state = .transparent → s.walker.walk = none)

/-- A destination the route table may hold an entry for (R97). -/
def State.mayHold (s : State) (d : Node) : Prop := notANode d = false ∧ d ≠ s.identity.ownNode

/-- At most one entry is in use for a destination, none for 0, 65535 or the own node; an entry is ACTIVE exactly with a
primary, and an EMPTY one holds its reset values (R96, R97). The work that may take an entry names no such destination
either: the notice being learned (R45, R50) and the PIN ROUTE that is RUNNING (R113). -/
def State.destinationsUnique (s : State) : Prop :=
  (∀ i j, (s.route i).state ≠ .empty → (s.route j).state ≠ .empty → (s.route i).dest = (s.route j).dest → i = j) ∧
  (∀ i, (s.route i).state ≠ .empty → s.mayHold (s.route i).dest) ∧
  (∀ i, (s.route i).state = .active ↔ (s.route i).primary.isSome = true) ∧
  (∀ i, (s.route i).state = .empty → s.route i = RouteEntry.empty) ∧
  (∀ w ∈ s.verdicts.work, w.phase ≠ .lookup → s.mayHold (hdrOrigin w.landing.words)) ∧
  (s.command.running = true → s.command.code = 0x20#8 → s.mayHold (hiHalf s.arg1)) ∧
  (s.engine.state = .transparent → s.verdicts.work = none)

/-! ### Slots, passes and the held access -/

/-- A record's optional fields are present exactly in the states Table 4 of chapter 1 gives (R7), and its captured hop budget
is at most 31 (R28). -/
def SlotRecord.wellFormed (r : SlotRecord) : Prop :=
  (r.state = .vacant → r = SlotRecord.vacant) ∧ (r.source.isSome = true ↔ r.state ≠ .vacant) ∧
  (r.passPort.isSome = true ↔ r.state = .filling ∨ r.state = .inSend ∨ r.state = .awaitingOutcome) ∧
  (r.state ≠ .inSend → r.progress = 0) ∧ (r.deadline.isSome = true ↔ r.state = .awaitingOutcome) ∧
  (r.refusal.isSome = true ↔ r.verdict = .dropRefused) ∧ (r.state = .filling → r.verdict = .none) ∧
  hdrBudget r.words ≤ 31

/-- The landings in the Verdict Unit. -/
def State.landings (s : State) : List Landing :=
  (s.verdicts.work.map fun w => w.landing).toList ++ s.verdicts.waiting

/-- A state in which a slot still holds the frame that landed in it (R13). -/
def SlotState.landedOn : SlotState → Bool
  | .landed | .composed | .inSend | .awaitingOutcome => true
  | .vacant | .filling => false

/-- Every record is well formed; a port has at most one slot FILLING and one IN_SEND (R10, R17); its binding is that of the
slot it has IN_SEND (R135, R148); and a landing still being decided owns its record only while the slot holds its frame
(R13). -/
def State.passesOwned (s : State) : Prop :=
  (∀ k, (s.slot k).wellFormed) ∧
  (∀ j k, (s.slot j).state = .filling → (s.slot k).state = .filling →
    (s.slot j).passPort = (s.slot k).passPort → j = k) ∧
  (∀ p k, (s.slot k).state = .inSend ∧ (s.slot k).passPort = some p ↔ ∃ b ∈ s.binding p, b.slot = k) ∧
  ∀ l ∈ s.landings, l.current = true → (s.slot l.slot).state.landedOn = true

/-- The held landing write has one landing that is marked as held, and a held word-2 read one binding that awaits its lookup;
nothing else is marked so (R22, R59, R139). -/
def State.heldIsOwned (s : State) : Prop :=
  (s.landings.countP fun l => l.held) = (match s.bus.held with | some (.landing _ _ _ _) => 1 | _ => 0) ∧
  ∀ p, s.awaitsLookup p = true ↔ ∃ a, s.bus.held = some (.passStart a p)

/-! ### Words of the statements -/

/-- The port takes an access: none is held, and no hardware reset is on (R22, R158). -/
def State.portFree (s : State) : Prop := s.bus.held = none ∧ s.inReset = false

/-- A go write would be taken (R162). -/
def State.takesCommands (s : State) : Prop := s.portFree ∧ s.command.running = false

/-- Packet memory after a go write. -/
def State.memWithGo (s : State) (code tag : Byte) : Memory :=
  s.mem.writeWord (stripAddr s.bus.position 0) (goWord tag code) allEnables

/-- The copy of A1..A3 that a taken command uses (R163). -/
def State.copiedArgs (s : State) : Vector Word 3 := #v[s.mailbox[0], s.mailbox[1], s.mailbox[2]]

/-- The state after a go write that completes with a result and has no other effect (R163, R164). -/
def State.completed (s : State) (code tag : Byte) (r : Result) : State :=
  { s with
    mem := s.memWithGo code tag
    command := { code := code, tag := tag, tagPresent := true, running := false, result := r, args := s.copiedArgs } }

/-- The state after a go write that goes RUNNING (R163). -/
def State.wentRunning (s : State) (code tag : Byte) : State :=
  { s with
    mem := s.memWithGo code tag
    command :=
      { code := code, tag := tag, tagPresent := true, running := true, result := .unknown, args := s.copiedArgs } }

/-- The go writes of the listed commands, with their codes (Table 7 of chapter 2). -/
def goForms (go : GoAccess) : List (Instr × Byte) :=
  [(.setIdentity go, 0x01), (.setRegion go, 0x02), (.setRoles go, 0x03), (.setTiming go, 0x04), (.setMetric go, 0x05),
   (.setEvents go, 0x06), (.start go, 0x10), (.stop go, 0x11), (.restart go, 0x12), (.pinRoute go, 0x20),
   (.unpin go, 0x21), (.purgeAdd go, 0x22), (.purgeCancel go, 0x23), (.unbar go, 0x24), (.flushRoutes go, 0x25),
   (.readRoute go, 0x30), (.readLink go, 0x31), (.readSlot go, 0x32), (.readWanted go, 0x33), (.releaseWanted go, 0x34),
   (.clearCounters go, 0x35)]

/-- An access of mesh port `p` to word `w` of slot `k` that Slot Capture receives (R5, R6). -/
def State.meshAt (s : State) (i : Initiator) (a : WordAddr) (p : Port) (k : SlotNo) (w : Nat) : Prop :=
  s.portFree ∧ s.engine.state ≠ .transparent ∧ stripWordOf s.bus.position a = none ∧ s.slotOf a = some (k, w) ∧
  s.role i = .mesh p

/-- An access of a SOFTWARE initiator to word `w` of slot `k` that Slot Capture receives (R5, R6). -/
def State.softwareAt (s : State) (i : Initiator) (a : WordAddr) (k : SlotNo) (w : Nat) : Prop :=
  s.portFree ∧ s.engine.state ≠ .transparent ∧ stripWordOf s.bus.position a = none ∧ s.slotOf a = some (k, w) ∧
  s.role i = .software

/-- The pending flag of a source (R178). -/
def State.pendingOf (s : State) (e : EventSource) : Bool := (s.events.at e.ix).pending

/-- The rows that carry a write to a slot. Each performs the access that its operands describe (log 3). -/
def slotWriteRows (a : WriteAccess) : List Instr :=
  [.receiveHeaderWrite a, .landing a, .strayLanding a, .softwareHeaderWrite a, .matchedOutcome a, .unmatchedOutcome a]

/-- The rows that carry a read of a slot. -/
def slotReadRows (a : ReadAccess) : List Instr := [.transmitPassStart a, .transmitWordRead a]

/-- The rows that carry an access on the port: to a slot, to word 0 of the strip with a command or without, and to the strip's
other words. -/
def portRows (w : WriteAccess) (r : ReadAccess) (go : GoAccess) (code : Byte) (latch : Fin 6) (word : Fin 256) :
    List Instr :=
  slotWriteRows w ++ slotReadRows r ++ (goForms go).map (fun g => g.1) ++
  [.unknownCommand go code, .argumentWordWrite w.initiator latch w.data w.be, .strayGoWrite w.initiator w.data w.be,
   .completeWrite w.initiator w.data w.be, .reportWindowWrite w.initiator word w.data w.be, .claimRead r.initiator r.be]

/-- The rows that the part's own blocks make, with the slot of an outcome deadline. -/
def ownRows (k : SlotNo) : List Instr :=
  [.verdictWaitListTake, .landingHoldExpiry, .noticeLearningStep, .noticeChoosingStep, .forwardingLookup,
   .passStartLookup, .passStartHoldExpiry, .pinRouteStep, .unpinStep, .readRouteStep, .readWantedStep,
   .releaseWantedStep, .outcomeDeadlineExpiry k, .outcomeJob, .sampleExpiry, .sweepBegin, .sweepVisit,
   .purgeWindowExpiry, .walkerStep]

/-- The number of neighbour entries in a state (R64). -/
def State.entriesIn (s : State) (st : LinkState) : Nat :=
  ((List.finRange 32).filter fun i => decide ((s.link i).state = st)).length

/-- From `s` to `t` no event source but those listed is raised, and no in-service flag, priority or threshold changes (R178). -/
def State.onlyRaises (s t : State) (es : List EventSource) : Prop :=
  t.events.threshold = s.events.threshold ∧
  ∀ e : EventSource, (t.events.at e.ix).inService = (s.events.at e.ix).inService ∧
    (t.events.at e.ix).priority = (s.events.at e.ix).priority ∧ (e ∉ es → t.pendingOf e = s.pendingOf e)

/-! ### Words of the statements: what the spec computes, written apart from the model -/

/-- The 4-bit priority field of the source at place `k` of SET EVENTS, as a number (Table 7 of chapter 2). -/
def priorityNumber (a1 a2 : Word) (k : Fin 12) : Nat :=
  if k.val < 8 then a1.toNat / 16 ^ (7 - k.val) % 16 else a2.toNat / 16 ^ (7 - (k.val - 8)) % 16

/-- The role value of initiator `i` in the argument word of SET ROLES, as a number (Table 7 of chapter 2). -/
def roleNumber (a1 : Word) (i : Initiator) : Nat := a1.toNat / 16 ^ (7 - i.val) % 16

/-- A field value brought into its range (R168). -/
def intoRange (lo hi n : Nat) : Nat := max lo (min hi n)

/-- The ten fields of SET TIMING as numbers, with their ranges (Table 2 of chapter 10). -/
def timingNumbers (a1 a2 a3 : Word) : List (Nat × Nat × Nat) :=
  [(a1.toNat / 0x1000000, 2, 255), (a1.toNat / 0x10000 % 256, 2, 255), (a1.toNat / 0x1000 % 16, 2, 15),
   (a1.toNat / 0x100 % 16, 1, 7), (a1.toNat / 0x10 % 16, 1, 15), (a2.toNat / 0x1000000, 1, 63),
   (a2.toNat / 0x10000 % 256, 1, 63), (a2.toNat / 0x100 % 256, 8, 255), (a2.toNat % 256, 1, 255),
   (a3.toNat % 256, 1, 255)]

/-- A link in PROBATION, LIVE or WEAK (Table 2 of chapter 4). -/
def heardState (l : LinkState) : Prop := l = .probation ∨ l = .live ∨ l = .weak

/-- The counters with `n` more in the counter at place `c`, saturating (R174). -/
def countedAt (cs : Vector Nat 16) (c : Fin 16) : Vector Nat 16 := cs.set c.val (min 65535 (cs[c.val] + 1))

/-- The record `r` with the enabled bytes of `data` captured into header word `w`, the budget clamped to 31, and the marks of
those bytes set (R8, R28). -/
def SlotRecord.captures (r r' : SlotRecord) (w : HeaderIx) (data : Word) (be : Enables) : Prop :=
  r' = { r with words := r'.words, marks := r'.marks } ∧
  (∀ v : HeaderIx, v ≠ w → r'.words[v.val] = r.words[v.val] ∧ r'.marks[v.val] = r.marks[v.val]) ∧
  r'.marks[w.val] = r.marks[w.val] ||| be ∧
  ∀ j : Fin 4, byteOf r'.words[w.val] j =
    if be.getLsbD (3 - j.val) = false then byteOf r.words[w.val] j
    else if w = 1 ∧ j = 1 ∧ 31 < (byteOf data j).toNat then 31 else byteOf data j

/-- The record of a slot at its landing (R11). -/
def SlotRecord.landedAt (r : SlotRecord) (p : Port) : SlotRecord :=
  { r with state := .landed, landingPort := some p, passPort := none, verdict := .none }

/-- What the stages decide without a table step: verdict code, port mask and refusal reason (R44 to R53, R55). -/
def State.stageVerdict (s : State) (l : Landing) : Option (VerdictCode × PortMask × Option RefusalReason) :=
  let h := l.words
  let own := s.identity.ownNode
  let kind := hdrKind h
  let plain := fun c : VerdictCode => some (c, (0 : PortMask), (none : Option RefusalReason))
  let refused := fun r : RefusalReason => some (VerdictCode.dropRefused, (0 : PortMask), some r)
  if l.linkError = true then plain .dropLinkError
  else if l.length < 20 ∨ (∃ w : HeaderIx, l.marks[w.val] ≠ 0xF#4) ∨ hdrOrigin h = 0 ∨ hdrOrigin h = 0xFFFF#16 ∨
      (3 ≤ kind ∧ kind ≤ 11) then plain .dropMalformed
  else if headerCheck s.identity.realmSeed h[1] h[2] h[3] h[4] ≠ hdrCheck h then plain .dropCheck
  else if 12 ≤ kind then plain .deliver
  else if hdrReceiver h ≠ own ∧ hdrReceiver h ≠ 0xFFFF#16 then refused .notMine
  else if hdrTransmitter h ∈ s.purge.bars then refused .barred
  else if kind = 1 then plain .absorb
  else if kind = 2 then (if hdrOrigin h = own then plain .absorb else none)
  else if hdrOrigin h = own then refused .loop
  else if hdrFinal h = own then plain .deliver
  else if hdrFinal h = 0xFFFF#16 then
    (if ∃ f ∈ s.verdicts.flood, f.origin = hdrOrigin h ∧ f.seq = hdrSequence h then plain .dropDuplicate
     else if 1 ≤ hdrBudget h ∧ s.livePorts ≠ 0 then some (.flood, s.livePorts, none) else plain .deliver)
  else if s.engine.state ≠ .forwarding then plain .undecided
  else if hdrBudget h = 0 then plain .dropBudget
  else none

/-- How far a frame got: whether it passed stage 5 and so updates its link (R48). -/
def State.passesStage5 (s : State) (l : Landing) : Prop :=
  match s.stageVerdict l with
  | none => True
  | some v => v.1 ∉ [.dropLinkError, .dropMalformed, .dropCheck] ∧ v.2.2 ∉ [some .notMine, some .barred] ∧
    hdrKind l.words ≤ 2

/-- The counters of Table 1 of chapter 3 that a decided verdict is counted in, counter k of the manual at place k − 1 (R62). -/
def verdictCounts (code : VerdictCode) (reason : Option RefusalReason) : List (Fin 16) :=
  match code with
  | .forward => [1]
  | .deliver => [2]
  | .flood | .rebroadcast => [3]
  | .absorb => [4]
  | .dropCheck => [5, 6]
  | .dropRefused => if reason = some .barred then [5, 15] else [5]
  | .dropMalformed | .dropBudget | .dropNoRoute | .dropDuplicate | .dropLinkError => [5]
  | .none | .undecided | .late | .waitRoute => []

/-- Counters after a verdict is counted (R62). -/
def countedFor (cs : Vector Nat 16) (code : VerdictCode) (reason : Option RefusalReason) : Vector Nat 16 :=
  (verdictCounts code reason).foldl countedAt cs

/-- The hello of a landing reaches the Link Estimator and names a neighbour: it passed stage 5, and its transmitter is not 0,
65535 or the own node (R49, R65). -/
def State.hearsHello (s : State) (l : Landing) : Prop :=
  s.passesStage5 l ∧ hdrKind l.words = 1 ∧ hdrTransmitter l.words ≠ 0 ∧ hdrTransmitter l.words ≠ 0xFFFF#16 ∧
  hdrTransmitter l.words ≠ s.identity.ownNode

/-- A hello finds neither its link nor a FREE entry (R66). -/
def State.helloRejected (s : State) (l : Landing) : Prop :=
  s.hearsHello l ∧ s.findLink l.link = none ∧ ∀ i, (s.link i).state ≠ .free

/-- An entry after the link update of a frame (R48). -/
def Link.updatedBy (k : Link) (l : Landing) : Link :=
  { k with signal := l.signal, rate := if k.txSamples = 0 then l.rate else k.rate }

/-- An entry in PROBATION, LIVE or WEAK after a hello (R67). -/
def Link.refreshedBy (k : Link) (l : Landing) (floor : Int) : Link :=
  { k with helloSeq := hdrSequence l.words, heard := k.heard || decide (floor ≤ l.signal) }

/-- The entry that a hello creates (R66). -/
def linkCreatedBy (l : Landing) (floor : Int) : Link :=
  { Link.free with
    state := .probation, node := hdrTransmitter l.words, port := l.port, signal := l.signal
    helloSeq := hdrSequence l.words, heard := decide (floor ≤ l.signal) }

/-- What the frame of a landing leaves in the neighbour table: nothing unless it passes stage 5; the update of R48 in its link's
entry while that is in PROBATION, LIVE or WEAK, after a hello has refreshed it (R67); and the lowest FREE entry for a hello whose
link has none (R66). -/
def State.linksAfterFrame (s t : State) (l : Landing) : Prop :=
  let floor := s.settings.signalFloor
  (¬s.passesStage5 l → t.links = s.links) ∧
  (s.passesStage5 l →
    (∀ i, s.findLink l.link = some i → ¬heardState (s.link i).state → t.links = s.links) ∧
    (∀ i, s.findLink l.link = some i → heardState (s.link i).state →
      (s.hearsHello l → t.links = s.links.set i.val (((s.link i).refreshedBy l floor).updatedBy l)) ∧
      (¬s.hearsHello l → t.links = s.links.set i.val ((s.link i).updatedBy l))) ∧
    (s.findLink l.link = none → ¬s.hearsHello l → t.links = s.links) ∧
    (s.findLink l.link = none → s.hearsHello l →
      (∀ i, (s.link i).state = .free → (∀ j, j < i → (s.link j).state ≠ .free) →
        t.links = s.links.set i.val ((linkCreatedBy l floor).updatedBy l)) ∧
      ((∀ i, (s.link i).state ≠ .free) → t.links = s.links)))

/-- The frame of a landing is broadcast data whose pair the flood cache does not hold (R52). -/
def State.newBroadcast (s : State) (l : Landing) : Prop :=
  s.passesStage5 l ∧ hdrKind l.words = 0 ∧ hdrOrigin l.words ≠ s.identity.ownNode ∧
  hdrFinal l.words ≠ s.identity.ownNode ∧ hdrFinal l.words = 0xFFFF#16 ∧
  ∀ f ∈ s.verdicts.flood, ¬(f.origin = hdrOrigin l.words ∧ f.seq = hdrSequence l.words)

/-- What the frame of a landing leaves in the flood cache: a new pair joins at the tail with age 0, and the head leaves a cache
of 64 (R52). -/
def State.floodAfterFrame (s t : State) (l : Landing) : Prop :=
  (¬s.newBroadcast l → t.verdicts.flood = s.verdicts.flood) ∧
  (s.newBroadcast l →
    t.verdicts.flood =
      (if s.verdicts.flood.length < 64 then s.verdicts.flood else s.verdicts.flood.tail) ++
        [{ origin := hdrOrigin l.words, seq := hdrSequence l.words, age := 0 }])

/-- What the stages leave besides the verdict's own destinations: the neighbour table (R48, R65 to R67), the flood cache (R52), and
TABLE-FULL with counter 14 for a hello that finds the table full (R66). A verdict that a stage decides is counted (R62). -/
def State.frameEffects (s t : State) (l : Landing) (base : Vector Nat 16) : Prop :=
  let count := fun cs : Vector Nat 16 =>
    match s.stageVerdict l with
    | none => cs
    | some v => countedFor cs v.1 v.2.2
  s.linksAfterFrame t l ∧ s.floodAfterFrame t l ∧
  (¬s.helloRejected l → t.counters = count base ∧ t.events = s.events) ∧
  (s.helloRejected l → t.counters = count (countedAt base 13) ∧
    t.events = s.events.put 8 { s.events.at 8 with pending := true })

/-- The table step that a computation undecided by its stages waits for: the learning step of a notice, with the ports that have a
LIVE link and the permission (R50), or the forwarding lookup (R53). -/
def State.stepAwaited (s : State) (l : Landing) : WorkPhase :=
  if hdrKind l.words = 2 then
    .learning s.livePorts (decide (1 ≤ hdrBudget l.words ∧ s.livePorts ≠ 0))
  else .lookup

/-- A verdict ends the computation of a landing: it is recorded while the landing owns its record; a write that is held is
released with the verdict byte, and otherwise memory and port stay; the landings that wait stay (R13, R23, R36, R41, R42). -/
def State.ends (s t : State) (l : Landing) (code : VerdictCode) (mask : PortMask) (link : Option LinkName) : Prop :=
  t.verdicts.work = none ∧ t.verdicts.waiting = s.verdicts.waiting ∧
  t.slots = (if l.current = true then
    s.slots.set l.slot.val { s.slot l.slot with verdict := code, verdictLink := link, refusal := none } else s.slots) ∧
  (l.held = false → t.mem = s.mem ∧ t.bus = s.bus) ∧
  (l.held = true → ∀ a d be n, s.bus.held = some (.landing a d be n) →
    t.bus = { s.bus with held := none } ∧
    t.mem = s.mem.writeWord a (withVerdictByte d (verdictByte code mask (s.staleFlag l.link))) be)

/-- The candidate list `out` after an offer `new` on an entry: an offer over a link already listed takes its place; a list of fewer
than 4 gets it at the tail; a full list of different links gives up its victim, the candidate of the largest total not over the
primary link, nearest the head among equals, when the new total is smaller (R104). -/
def State.offered (s : State) (e : RouteEntry) (new : Candidate) (out : List Candidate) : Prop :=
  let total := fun c : Candidate => min 65535 (c.stamp + (s.link c.link).cost)
  let spared := fun c : Candidate => ∃ x, e.primary = some x ∧ x.link = c.link
  ((∃ c ∈ e.candidates, c.link = new.link) →
    out = e.candidates.map fun c => if c.link = new.link then new else c) ∧
  ((∀ c ∈ e.candidates, c.link ≠ new.link) → e.candidates.length < 4 → out = e.candidates ++ [new]) ∧
  ((∀ c ∈ e.candidates, c.link ≠ new.link) → 4 ≤ e.candidates.length →
    (e.candidates.map fun c => c.link).Nodup →
    ∀ front victim back, e.candidates = front ++ victim :: back → ¬spared victim →
      (∀ c ∈ front, spared c ∨ total c < total victim) → (∀ c ∈ back, spared c ∨ total c ≤ total victim) →
      (total new < total victim → out = front ++ back ++ [new]) ∧
      (total victim ≤ total new → out = e.candidates))

/-- The reports of a selection that makes `e'` of the entry content `e`: ROUTE-FOUND, with the WAITING wanted entry FOUND, when the
entry gains a primary, and GATEWAY-CHANGE when the primary link of a flagged entry changes, absent being a value (R108,
R117). -/
def State.selectionReports (s t : State) (e e' : RouteEntry) : Prop :=
  let found := e.primary = none ∧ e'.primary ≠ none ∧ ∃ w ∈ s.wanted, w.dest = e.dest ∧ w.state = .waiting
  (found → t.pendingOf .routeFound = true ∧
    t.wanted = s.wanted.map fun w =>
      if w.dest = e.dest ∧ w.state = .waiting then { w with state := .found } else w) ∧
  (¬found → t.pendingOf .routeFound = s.pendingOf .routeFound ∧ t.wanted = s.wanted) ∧
  t.pendingOf .gatewayChange =
    (s.pendingOf .gatewayChange ||
      (e.gateway && decide ((e.primary.map fun c => c.link) ≠ e'.primary.map fun c => c.link)))

/-- The wanted list after a request that it accepts: a WAITING entry counts one frame more, at most 255; a FOUND or EXPIRED entry
is WAITING again with age 0 and count 1; a destination not yet listed joins at the tail (R116). -/
def wantedAfterRequest (ws : List WantedEntry) (d : Node) : List WantedEntry :=
  if ∃ w ∈ ws, w.dest = d then
    ws.map fun w =>
      if w.dest = d then
        (if w.state = .waiting then { w with frames := min 255 (w.frames + 1) }
          else { w with state := .waiting, age := 0, frames := 1 })
      else w
  else ws ++ [{ dest := d, state := .waiting, age := 0, frames := 1 }]

/-- A requester other than the Verdict Unit has a request waiting for route storage: a pass-start lookup, a command that is
RUNNING and takes a step, a walk (Table 2 of chapter 6). -/
def State.asks (s : State) : Requester → Prop
  | .verdict => False
  | .overlay => ∃ p b, s.binding p = some b ∧ b.how = .awaiting
  | .command => s.command.running = true ∧ s.command.code ∈ [0x20#8, 0x21#8, 0x30#8, 0x33#8, 0x34#8]
  | .walker => s.walker.walk ≠ none

/-- The requester to which storage went at the end of the learning step, before the choosing step (R104), or none. -/
def State.givenTo (s : State) (r : Requester) : Prop :=
  s.asks r ∧ ∃ l m p i, s.verdicts.work = some { landing := l, phase := .choosing m p i (some r) }

/-- The class of a request (Table 2 of chapter 6). -/
def State.classOf (s : State) : Requester → Nat
  | .verdict => if ∃ w, s.verdicts.work = some w ∧ w.landing.held = true then 1 else 2
  | .overlay => 1
  | .command => 3
  | .walker => 4

/-- Table 1 of chapter 8: the treatment that a record gets at pass start (R137). -/
def State.treatmentIs (s : State) (r : SlotRecord) (tr : Treatment) : Prop :=
  let own := hdrOrigin r.words = s.identity.ownNode
  let kind := hdrKind r.words
  ((∃ w : HeaderIx, r.marks[w.val] ≠ 0xF#4) → tr = .uncaptured) ∧
  ((∀ w : HeaderIx, r.marks[w.val] = 0xF#4) →
    (kind = 0 → hdrFinal r.words ≠ 0xFFFF#16 → tr = .unicastData) ∧
    (kind = 0 → hdrFinal r.words = 0xFFFF#16 → tr = .broadcastData) ∧
    (kind = 1 → own → tr = .ownHello) ∧ (kind = 2 → own → tr = .ownNotice) ∧
    (kind = 2 → ¬own → tr = .relayedNotice) ∧ ((kind = 1 ∧ ¬own) ∨ 3 ≤ kind → tr = .other))

/-- The link at an index is the one that a node and a port name: it is not FREE, has that node and port, and the node is not 0 or
65535 (R26, R65). -/
def State.holdsLink (s : State) (n : LinkName) (i : LinkIx) : Prop :=
  n.node ≠ 0 ∧ n.node ≠ 0xFFFF#16 ∧ (s.link i).state ≠ .free ∧ (s.link i).node = n.node ∧ (s.link i).port = n.port

/-- The header check register after one data bit (R33). -/
def checkBit (reg : Half) (bit : Bool) : Half :=
  if (reg.getLsbD 15 != bit) = true then (reg <<< 1) ^^^ 0x1021#16 else reg <<< 1

/-- The 112 bits that the header check covers, in frame order: words 3, 4 and 5 and the upper half of word 6, each from its most
significant bit on (R33). -/
def coveredBits (w3 w4 w5 w6 : Word) : List Bool :=
  let bits := fun (w : Word) (n : Nat) => (List.range n).map fun k => w.getLsbD (31 - k)
  bits w3 32 ++ bits w4 32 ++ bits w5 32 ++ bits w6 16

/-! ### Words of the statements: Table 9 of chapter 2 -/

/-- A value that may be absent at a place of a word; absent reads as zero (R40). -/
def absentZero (lo : Nat) (n : Option Nat) : Word :=
  match n with
  | none => 0
  | some x => place lo x

/-- Words 96 to 111 of a route entry. -/
def RouteEntry.snapshotWords (e : RouteEntry) : List Word :=
  let choice := fun c : Option Choice =>
    packed [placeFlag 31 c.isSome, absentZero 24 (c.map fun x => x.link.val), absentZero 0 (c.map fun x => x.total)]
  let first := fun c : Option Candidate =>
    packed [placeFlag 31 c.isSome, absentZero 24 (c.map fun x => x.link.val), absentZero 0 (c.map fun x => x.stamp)]
  let second := fun c : Option Candidate => absentZero 16 (c.map fun x => x.heard.toNat)
  let c := fun i : Nat => e.candidates[i]?
  [packed [place 30 (match e.state with | .empty => 0 | .active => 1 | .orphan => 2), placeFlag 29 e.gateway,
      placeFlag 28 e.latest.isSome, placeFlag 27 e.lastRebroadcast.isSome, placeFlag 26 e.pin.isSome, place 16 e.age,
      absentZero 0 (e.latest.map fun q => q.toNat)],
   absentZero 16 (e.lastRebroadcast.map fun q => q.toNat), choice e.primary, choice e.alternate,
   packed [absentZero 16 (e.pin.map fun p => p.link.node.toNat), absentZero 0 (e.pin.map fun p => p.cost)],
   packed [absentZero 24 (e.pin.map fun p => p.link.port.val), place 0 e.candidates.length],
   first (c 0), second (c 0), first (c 1), second (c 1), first (c 2), second (c 2), first (c 3), second (c 3)]

/-- Words 96 to 105 of a slot record, at time `now`. -/
def SlotRecord.snapshotWords (r : SlotRecord) (now : Nat) : List Word :=
  [packed [place 29 (match r.state with
        | .vacant => 0 | .filling => 1 | .landed => 2 | .composed => 3 | .inSend => 4 | .awaitingOutcome => 5),
      placeFlag 28 (decide (r.source = some .composed)), placeFlag 20 (decide (r.marks[0] = 0xF#4)),
      placeFlag 21 (decide (r.marks[1] = 0xF#4)), placeFlag 22 (decide (r.marks[2] = 0xF#4)),
      placeFlag 23 (decide (r.marks[3] = 0xF#4)), placeFlag 24 (decide (r.marks[4] = 0xF#4))],
   packed [place 16 r.marks[0].toNat, place 12 r.marks[1].toNat, place 8 r.marks[2].toNat, place 4 r.marks[3].toNat,
      place 0 r.marks[4].toNat],
   r.words[0], r.words[1], r.words[2], r.words[3], r.words[4],
   packed [placeFlag 31 r.landingPort.isSome, absentZero 24 (r.landingPort.map fun p => p.val),
      place 16 r.verdict.toNat, placeFlag 15 r.verdictLink.isSome, absentZero 8 (r.verdictLink.map fun n => n.port.val),
      match r.refusal with | none => 0 | some .notMine => 1 | some .barred => 2 | some .loop => 3],
   packed [absentZero 16 (r.verdictLink.map fun n => n.node.toNat), absentZero 0 (r.sentLink.map fun n => n.node.toNat)],
   packed [placeFlag 31 r.sentLink.isSome, absentZero 24 (r.sentLink.map fun n => n.port.val),
      placeFlag 23 r.passPort.isSome, absentZero 16 (r.passPort.map fun p => p.val), place 8 r.progress.toNat,
      placeFlag 15 r.deadline.isSome, absentZero 0 (r.deadline.map fun t => t - now)]]

/-- The word of a wanted entry. -/
def WantedEntry.snapshotWord (w : WantedEntry) : Word :=
  packed [place 16 w.dest.toNat, place 14 (match w.state with | .waiting => 1 | .found => 2 | .expired => 3),
    place 8 w.age, place 0 w.frames]

/-! ### Words of the statements: passes, samples, selection -/

/-- The receiver node gives the pass a sent link (R142). -/
def State.sentLinkFor (s : State) (t : Treatment) (receiver : Node) (p : Port) : Option LinkName :=
  if t = .uncaptured ∨ receiver = 0 ∨ receiver = 0xFFFF#16 ∨ receiver = s.identity.ownNode then none
  else some { node := receiver, port := p }

/-- The node of a route choice whose link is LIVE on port `p` (R140). -/
def State.usableOn (s : State) (c : Option Choice) (p : Port) (n : Node) : Prop :=
  ∃ x, c = some x ∧ (s.link x.link).state = .live ∧ (s.link x.link).port = p ∧ (s.link x.link).node = n

/-- One toward-target step (R87). -/
def toward (q t : Nat) : Nat := if q ≤ t then q + (t - q + 7) / 8 else q - (q - t + 7) / 8

/-- The rate table (R90). -/
def rateNumbers : List Nat := [12, 20, 32, 48, 64, 96, 128, 160]

/-- The cost of chapter 5: d = r × p / 256; 16383 for d = 0, else the ceiling of 96000 / d plus the penalty, at most 16383
(R91, R92). -/
def costNumber (p : Nat) (rate : Fin 8) (penalty : Nat) : Nat :=
  let d := rateNumbers[rate.val]! * p / 256
  if d = 0 then 16383 else min 16383 ((96000 + d - 1) / d + penalty)

/-- Candidate `c` ranks before `d`: lower total, then lower link node, then lower port (R107). -/
def State.ranksBefore (s : State) (c d : Candidate) : Prop :=
  let key := fun x : Candidate =>
    (min 65535 (x.stamp + (s.link x.link).cost), (s.link x.link).node.toNat, (s.link x.link).port.val)
  (key c).1 < (key d).1 ∨ ((key c).1 = (key d).1 ∧
    ((key c).2.1 < (key d).2.1 ∨ ((key c).2.1 = (key d).2.1 ∧ (key c).2.2 < (key d).2.2)))

end Sys2Proof.Machine
end

