-- ==== Sys2Proof/Certificates/Slice0/Obligations.lean ====
section
/-! DEFINITION. The statements for the provers. Each names the rules of spec/ that it follows; a choice of the model's own is
named by its log entry. -/

open Sys2Proof Sys2Proof.Machine

/-! ### The queue and the resets -/

/-- A step takes the command at the front of the queue and runs it on the rest. The queue is the model's own, and so is the step on
it (logs 23 and 5); the commands are the rows that 95_what_each_step_holds.md lists. -/
def Obligations.StepRunsTheFrontCommand : Prop :=
  ∀ (c : Instr) (rest : List Instr) (s : State),
    step { s with pending := c :: rest } = exec c { s with pending := rest }

/-- The state after a power-on reset, Table 2 of chapter 9, with the FREE values of Table 1 of chapter 4, the EMPTY values of
Table 1 of chapter 6, the VACANT record of Table 4 of chapter 1 and the defaults of Table 2 of chapter 10. The position, the time base's count, the data lines, the content of
memory, the empty queue, the zeros in the bits of report words that no field names and those in the command engine's copy of A1 to
A3 are the model's choices (logs 11, 6, 12, 9, 23, 29 and 32). -/
def Obligations.ResetLeavesTable2 : Prop :=
  let s := State.reset
  (∀ i, s.role i = .ignored) ∧ (∀ j : Fin 4, s.bus.regions[j.val] = none) ∧ s.slotCount = 0 ∧ s.quiet ∧
  (∀ k, s.slot k =
    { state := .vacant, source := none, words := Vector.replicate 5 0, marks := Vector.replicate 5 0, landingPort := none,
      verdict := .none, verdictLink := none, refusal := none, passPort := none, progress := 0, sentLink := none,
      deadline := none }) ∧
  s.verdicts.flood = [] ∧
  (∀ i, s.link i =
    { state := .free, node := 0, port := 0, qRx := 0, qTx := 0, txSamples := 0, heard := false, silent := 0,
      probation := 0, rate := 0, signal := 0, cost := 16383, helloSeq := 0 }) ∧
  s.purge = { set := [], window := none, bars := [] } ∧
  (∀ i, s.route i =
    { state := .empty, dest := 0, latest := none, lastRebroadcast := none, age := 0, gateway := false, primary := none,
      alternate := none, pin := none, candidates := [] }) ∧
  s.wanted = [] ∧
  s.walker = { refresh := false, flush := false, evict := [], walk := none } ∧
  s.overlay.helloSeq = 0 ∧ s.overlay.noticeSeq = 0 ∧ s.identity = { ownNode := 0, realmSeed := 65535 } ∧
  s.settings =
    { sampleInterval := 200, routeExpiry := 30, deadLimit := 4, probation := 3, settle := 5, floodLifetime := 10,
      waitLimit := 5, holdLimit := 64, outcomeDeadline := 30, purgeWindow := 20, hopPenalty := 8, hysteresis := 2,
      qualityFloor := 410, signalFloor := -90 } ∧
  s.settings.inRange ∧
  s.engine = { state := .transparent, settle := 0, nextExpiry := none } ∧ (∀ l : Fin 6, s.mailbox[l.val] = 0) ∧
  (∀ w : Nat, w < 256 → s.reportWord w =
    if w = 32 then 0x0A17D401 else if w = 34 then 0x01000000 else if w = 40 then 0x20000000 else 0) ∧
  (∀ c, s.counter c = 0) ∧
  (∀ k, s.events.at k = { pending := false, inService := false, priority := 0 }) ∧ s.events.threshold = 0 ∧
  s.cause = { last := .power, count := 0 } ∧ s.cReady = true ∧ s.irqAsserted = false ∧
  s.bus.resetLow = false ∧ s.bus.power = .ended ∧
  s.bus.position = 0 ∧ s.now = 0 ∧ s.bus.readData = 0 ∧ s.mem = [] ∧ s.pending = [] ∧
  s.command.args = #v[0, 0, 0]

/-- The three hardware reset rows. The beginning of a reset, by power or by the RESET line, makes the part inert and discards the
passes and the verdict work. A held access is released unaltered, and nothing is counted or raised for it (R24). The end samples
the straps, returns every block to Table 2 of chapter 9 and records the cause: POWER with count 0 when the supplies are stable and
RESET is high, and LINE with one reset more when RESET goes high after that. A RESET line that is low when the supplies are stable
carries the power-on reset on until it goes high; a RESET line that goes high before they are ends nothing (R1, R158, R160).
POWER_ON_RESET's operand, which names the beginning or the end, and what a release with RESET not low does, are the model's
(log 20); so are what a reset keeps (logs 6, 9, 12, 23), what its beginning discards at once (log 19) and the zeros that its end
leaves in the command engine's copy of A1 to A3 (log 32). -/
def Obligations.HardwareResetResult : Prop :=
  let discarded := fun s : State => { s with
    slots := Vector.replicate 512 SlotRecord.vacant
    verdicts := VerdictUnit.reset
    overlay := { s.overlay with bindings := Vector.replicate 3 none } }
  let ended := fun (s : State) (straps : Fin 8) (cause : ResetCause) => { State.reset with
    pending := s.pending, now := s.now, mem := s.mem
    bus := { BusTap.reset straps with readData := s.bus.readData }
    cause := cause }
  (∀ (straps : Fin 8) (s : State), s.bus.held = none →
    exec (.powerOnReset .applied) s = .next { discarded s with bus := { s.bus with power := .rising } } ∧
    (s.bus.resetLow = false →
      exec (.powerOnReset (.stable straps)) s = .next (ended s straps { last := .power, count := 0 })) ∧
    (s.bus.resetLow = true →
      exec (.powerOnReset (.stable straps)) s =
        .next { discarded s with bus := { s.bus with power := .lineLow } }) ∧
    exec .resetLineAsserted s = .next { discarded s with bus := { s.bus with resetLow := true } } ∧
    (s.bus.resetLow = true →
      (s.bus.power = .ended → exec (.resetLineReleased straps) s =
        .next (ended s straps { last := .line, count := min 255 (s.cause.count + 1) })) ∧
      (s.bus.power = .lineLow → exec (.resetLineReleased straps) s =
        .next (ended s straps { last := .power, count := 0 })) ∧
      (s.bus.power = .rising → exec (.resetLineReleased straps) s =
        .next { s with bus := { s.bus with resetLow := false } })) ∧
    (s.bus.resetLow = false → exec (.resetLineReleased straps) s = .next s)) ∧
  (∀ (s : State) (a : WordAddr) (d : Word) (be : Enables) (n : LinkName), s.bus.held = some (.landing a d be n) →
    ∀ c ∈ [Instr.resetLineAsserted, .powerOnReset .applied],
      ∃ t, exec c s = .next t ∧ t.mem = s.mem.writeWord a d be ∧ t.bus.held = none ∧
        (t.bus.resetLow = true ∨ t.bus.power ≠ .ended) ∧ t.counters = s.counters ∧ t.events = s.events ∧
        t.verdicts.work = none ∧ t.verdicts.waiting = []) ∧
  (∀ (s : State) (a : WordAddr) (p : Port), s.bus.held = some (.passStart a p) →
    ∀ c ∈ [Instr.resetLineAsserted, .powerOnReset .applied],
      ∃ t, exec c s = .next t ∧ t.bus.readData = s.mem.readWord a ∧ t.mem = s.mem ∧ t.bus.held = none ∧
        (t.bus.resetLow = true ∨ t.bus.power ≠ .ended) ∧ t.counters = s.counters ∧ t.events = s.events ∧
        t.binding p = none) ∧
  ∀ (straps : Fin 8) (s : State), ∃ t, exec (.powerOnReset (.stable straps)) s = .next t ∧ t.bus.held = none ∧
    (s.bus.resetLow = false → (∀ c, t.counter c = 0) ∧ t.cause = { last := .power, count := 0 }) ∧
    (∀ a d be n, s.bus.held = some (.landing a d be n) → t.mem = s.mem.writeWord a d be) ∧
    ∀ a p, s.bus.held = some (.passStart a p) → t.bus.readData = s.mem.readWord a ∧ t.mem = s.mem

/-- While RESET is low, or a power-on reset has not ended, every access passes to memory unaltered, nothing is latched or counted,
no command is taken, and IRQ is released; and no step of the part's own blocks takes place, so nothing is counted, raised or changed
by one (R158). That the row of such a step leaves the state as it is, is the model's choice (logs 1 and 19). -/
def Obligations.PartIsInertDuringReset : Prop :=
  ∀ s : State, s.bus.resetLow = true ∨ s.bus.power ≠ .ended → s.bus.held = none →
    s.irqAsserted = false ∧
    (∀ a : WriteAccess, ∀ c ∈ slotWriteRows a,
      exec c s = .next { s with mem := s.mem.writeWord a.addr a.data a.be }) ∧
    (∀ a : ReadAccess, ∀ c ∈ slotReadRows a,
      exec c s = .next { s with bus := { s.bus with readData := s.mem.readWord a.addr } }) ∧
    (∀ (i : Initiator) (l : Fin 6) (d : Word) (be : Enables), exec (.argumentWordWrite i l d be) s =
      .next { s with mem := s.mem.writeWord (stripAddr s.bus.position ⟨l.val + 1, by omega⟩) d be }) ∧
    (∀ (i : Initiator) (d : Word) (be : Enables), exec (.strayGoWrite i d be) s =
      .next { s with mem := s.mem.writeWord (stripAddr s.bus.position 0) d be }) ∧
    (∀ (i : Initiator) (d : Word) (be : Enables), exec (.completeWrite i d be) s =
      .next { s with mem := s.mem.writeWord (stripAddr s.bus.position 37) d be }) ∧
    (∀ (i : Initiator) (w : Fin 256) (d : Word) (be : Enables), exec (.reportWindowWrite i w d be) s =
      .next { s with mem := s.mem.writeWord (stripAddr s.bus.position w) d be }) ∧
    (∀ (i : Initiator) (be : Enables), exec (.claimRead i be) s =
      .next { s with bus := { s.bus with readData := s.mem.readWord (stripAddr s.bus.position 37) } }) ∧
    (∀ (go : GoAccess), ∀ g ∈ goForms go, exec g.1 s = .next { s with mem := s.memWithGo g.2 go.tag }) ∧
    (∀ (go : GoAccess) (code : Byte),
      exec (.unknownCommand go code) s = .next { s with mem := s.memWithGo code go.tag }) ∧
    ∀ k : SlotNo, ∀ c ∈ ownRows k, exec c s = .next s

/-! ### The Bus Tap and the control strip -/

/-- Where the strip and the slots lie, and what an access is by its address and its initiator's role. The strip of strap number n
begins at byte n × 0x200000 + 0x1FFC00 (R1). The slots of the regions are numbered in index order, and a slot's words from its
first byte on, in descriptors that fit (R4, R5). Outside the strip an access passes to memory unaltered in TRANSPARENT, outside the
slots, from an IGNORED initiator, from software but for writes of words 2 to 6, and from a mesh port to payload words and, for a
read, to words 0 and 1, to word 2 of a slot that no pass can begin on, and to words 3 to 6 of a slot that is not in a pass of that
port (R6, R15, R16, R18). In the strip a read of a report word gets the part's word, one of the claim word is a claim, and every
other read memory's; a write acts as its strip word's row (R2, R175). While an access is held C_RDY is low, and another access waits (R22). That a slot
row performs the access that its operands describe, and that an access which must wait leaves the state as it is, are the model's
(logs 3 and 2). -/
def Obligations.BusTapRoutesAccesses : Prop :=
  (∀ (n : Fin 8) (w : Fin 256), (stripAddr n w).toNat * 4 = n.val * 0x200000 + 0x1FFC00 + 4 * w.val) ∧
  (∀ (n : Fin 8) (a : WordAddr) (w : Fin 256),
    stripWordOf n a = some w ↔ a.toNat * 4 = n.val * 0x200000 + 0x1FFC00 + 4 * w.val) ∧
  (∀ (s : State) (a : WordAddr) (k : SlotNo) (w : Nat), s.regionsFit →
    (s.slotOf a = some (k, w) ↔ ∃ (j : Fin 4) (r : Region), s.bus.regions[j.val] = some r ∧
      r.base.toNat ≤ 4 * a.toNat ∧ 4 * a.toNat < r.base.toNat + 512 * 2 ^ r.sizeCode.val * r.count ∧
      k.val = totalSlots (s.bus.regions.toList.take j.val) +
        (4 * a.toNat - r.base.toNat) / (512 * 2 ^ r.sizeCode.val) ∧
      w = (4 * a.toNat - r.base.toNat) % (512 * 2 ^ r.sizeCode.val) / 4)) ∧
  (∀ (a : WriteAccess) (s : State), s.portFree → stripWordOf s.bus.position a.addr = none →
    (s.engine.state = .transparent ∨ s.slotOf a.addr = none ∨ s.role a.initiator = .ignored ∨
      ∃ k w, s.slotOf a.addr = some (k, w) ∧ (6 < w ∨ (s.role a.initiator = .software ∧ w < 2))) →
    ∀ c ∈ slotWriteRows a, exec c s = .next { s with mem := s.mem.writeWord a.addr a.data a.be }) ∧
  (∀ (a : ReadAccess) (s : State), s.portFree → stripWordOf s.bus.position a.addr = none →
    (s.engine.state = .transparent ∨ s.slotOf a.addr = none ∨ s.role a.initiator = .ignored ∨
      s.role a.initiator = .software ∨
      ∃ p k w, s.slotOf a.addr = some (k, w) ∧ s.role a.initiator = .mesh p ∧
        (w < 2 ∨ 6 < w ∨ (w = 2 ∧ ((s.slot k).state = .vacant ∨ (s.slot k).state = .filling)) ∨
          (2 < w ∧ ¬((s.slot k).state = .inSend ∧ (s.slot k).passPort = some p)))) →
    ∀ c ∈ slotReadRows a, exec c s = .next { s with bus := { s.bus with readData := s.mem.readWord a.addr } }) ∧
  (∀ (a : ReadAccess) (s : State) (w : Fin 256), s.portFree → stripWordOf s.bus.position a.addr = some w →
    ∀ c ∈ slotReadRows a,
      (32 ≤ w.val → w.val ≤ 127 → w.val ≠ 37 →
        exec c s = .next { s with bus := { s.bus with readData := s.reportWord w.val } }) ∧
      (w.val = 37 → exec c s = exec (.claimRead a.initiator a.be) s) ∧
      (w.val < 32 ∨ 127 < w.val →
        exec c s = .next { s with bus := { s.bus with readData := s.mem.readWord a.addr } })) ∧
  (∀ (a : WriteAccess) (s : State) (w : Fin 256), s.portFree → stripWordOf s.bus.position a.addr = some w →
    ∀ c ∈ slotWriteRows a,
      (w.val = 0 → exec c s = exec (.strayGoWrite a.initiator a.data a.be) s) ∧
      (∀ l : Fin 6, w.val = l.val + 1 → exec c s = exec (.argumentWordWrite a.initiator l a.data a.be) s) ∧
      (7 ≤ w.val → exec c s = exec (.reportWindowWrite a.initiator w a.data a.be) s) ∧
      (w.val = 37 → exec c s = exec (.completeWrite a.initiator a.data a.be) s)) ∧
  (∀ s : State, s.cReady = true ↔ s.bus.held = none) ∧
  ∀ (w : WriteAccess) (r : ReadAccess) (go : GoAccess) (code : Byte) (latch : Fin 6) (word : Fin 256) (s : State),
    s.bus.held ≠ none → ∀ c ∈ portRows w r go code latch word, exec c s = .next s

/-- The words of the report window, Table 8 of chapter 2, in a state whose numbers are in their ranges and whose evict sets hold no
index twice (R39, R175, R176). That a bit which no field names reads 0, and the walker word's next-entry field while no walk is in
progress, are the model's choices (logs 29 and 30). -/
def Obligations.ReportWindowWords : Prop :=
  ∀ s : State, s.inRange → s.withinCapacity →
    let word := fun w : Nat => (s.reportWord w).toNat
    let bit := fun (n : Nat) (b : Bool) => if b = true then 2 ^ n else 0
    word 32 = 0x0A17D401 ∧
    word 33 =
      (match s.engine.state with | .transparent => 0 | .learning => 1 | .forwarding => 2) * 0x1000000 +
      s.engine.settle * 0x10000 + s.identity.ownNode.toNat ∧
    word 34 =
      (match s.cause.last with | .power => 1 | .line => 2 | .command => 3) * 0x1000000 + s.cause.count * 0x10000 ∧
    word 35 =
      s.command.code.toNat * 0x1000000 + s.command.tag.toNat * 0x10000 + bit 15 s.command.tagPresent +
      bit 8 s.command.running +
      (match s.command.result with
        | .unknown => 0 | .done => 1 | .doneClamped => 2 | .badArgument => 3 | .unknownCommand => 4 | .wrongState => 5
        | .full => 6 | .notFound => 7) ∧
    word 36 =
      s.refusal.code.toNat * 0x1000000 + s.refusal.tag.toNat * 0x10000 + bit 15 s.refusal.present +
      (if s.refusal.present = true then 8 else 0) ∧
    (∀ k : Fin 12, (s.reportWord 38).getLsbD (k.val + 1) = (s.events.at k).pending ∧
      (s.reportWord 39).getLsbD (k.val + 1) = (s.events.at k).inService) ∧
    (s.reportWord 38).getLsbD 31 = s.irqAsserted ∧ (s.reportWord 39).getLsbD 31 = false ∧
    (∀ n : Nat, n = 0 ∨ (12 < n ∧ n < 31) →
      (s.reportWord 38).getLsbD n = false ∧ (s.reportWord 39).getLsbD n = false) ∧
    word 40 =
      s.entriesIn .free * 0x1000000 + s.entriesIn .probation * 0x10000 + s.entriesIn .live * 0x100 + s.entriesIn .weak ∧
    word 41 = s.entriesIn .lost * 0x1000000 + s.entriesIn .purging * 0x10000 ∧
    word 42 =
      (match s.walker.walk with | none => 0 | some w => 0x80000000 + w.next.val * 0x10000) +
      s.walker.evict.length * 0x100 + bit 2 s.walker.refresh + bit 1 s.walker.flush ∧
    word 43 =
      (match s.snapshot.kind with | .none => 0 | .route => 1 | .link => 2 | .slot => 3 | .wanted => 4) * 0x1000000 +
      s.snapshot.tag.toNat * 0x10000 + s.snapshot.key.toNat ∧
    (∀ k : Fin 8, word (44 + k.val) = s.counters[2 * k.val] * 0x10000 + s.counters[2 * k.val + 1]) ∧
    (∀ k : Fin 16, s.reportWord (96 + k.val) = s.snapshot.area[k.val]) ∧
    ∀ w : Nat, (52 ≤ w ∧ w ≤ 95) ∨ (112 ≤ w ∧ w ≤ 127) → word w = 0

/-- Writes to the strip. One to an argument word is latched byte by byte and reaches memory (R161, R25). One to a strip or report
word with no behaviour of its own only reaches memory (R2). One to word 0 with a clear enable or a wrong key counts in counter 12
and does nothing else (R162). A taken go write with an unlisted code completes at once with UNKNOWN-COMMAND, with nothing else
changed (R163). -/
def Obligations.StripWrites : Prop :=
  (∀ (i : Initiator) (l : Fin 6) (d : Word) (be : Enables) (s : State), s.portFree →
    exec (.argumentWordWrite i l d be) s =
      .next { s with
        mem := s.mem.writeWord (stripAddr s.bus.position ⟨l.val + 1, by omega⟩) d be
        mailbox := s.mailbox.set l.val (mergeBytes be s.mailbox[l.val] d) }) ∧
  (∀ (be : Enables) (old new : Word) (j : Fin 4),
    byteOf (mergeBytes be old new) j = if be.getLsbD (3 - j.val) then byteOf new j else byteOf old j) ∧
  (∀ (i : Initiator) (w : Fin 256) (d : Word) (be : Enables) (s : State), s.portFree → 7 ≤ w.val →
    (w.val = 37 → be.getLsbD 0 = false) →
    exec (.reportWindowWrite i w d be) s =
      .next { s with mem := s.mem.writeWord (stripAddr s.bus.position w) d be }) ∧
  (∀ (i : Initiator) (d : Word) (be : Enables) (s : State), s.portFree →
    (be ≠ 0xF#4 ∨ d.extractLsb' 16 16 ≠ 0x6E2D#16) →
    exec (.strayGoWrite i d be) s =
      .next { s with
        mem := s.mem.writeWord (stripAddr s.bus.position 0) d be
        counters := s.counters.set 11 (min 65535 (s.counters[11] + 1)) }) ∧
  ∀ (go : GoAccess) (code : Byte) (s : State), s.takesCommands → code ∉ listedCodes →
    exec (.unknownCommand go code) s = .next (s.completed code go.tag .unknownCommand)

/-- A go write made while a command is RUNNING is refused with BUSY: only the refusal word is written. It is clear after the
resets, and STOP and START keep it (R165). That the bits of the word that no field names read 0 is the model's choice (log 29). -/
def Obligations.BusyRefusal : Prop :=
  (∀ (go : GoAccess) (s : State), s.portFree → s.command.running = true → ∀ g ∈ goForms go,
    exec g.1 s = .next { s with
      mem := s.memWithGo g.2 go.tag
      refusal := { present := true, code := g.2, tag := go.tag } }) ∧
  (∀ (go : GoAccess) (code : Byte) (s : State), s.portFree → s.command.running = true →
    exec (.unknownCommand go code) s = .next { s with
      mem := s.memWithGo code go.tag
      refusal := { present := true, code := code, tag := go.tag } }) ∧
  (∀ (s : State) (code tag : Byte), s.refusal = { present := true, code := code, tag := tag } →
    s.reportWord 36 = code ++ tag ++ 0x8008#16) ∧
  (∀ (straps : Fin 8) (go : GoAccess) (s : State),
    (s.bus.resetLow = false → ∃ t, exec (.powerOnReset (.stable straps)) s = .next t ∧ t.reportWord 36 = 0) ∧
    (s.bus.resetLow = true → s.bus.power ≠ .rising →
      ∃ t, exec (.resetLineReleased straps) s = .next t ∧ t.reportWord 36 = 0) ∧
    (s.takesCommands → ∃ t, exec (.restart go) s = .next t ∧ t.reportWord 36 = 0)) ∧
  ∀ (go : GoAccess) (s : State), s.takesCommands →
    (∃ t, exec (.start go) s = .next t ∧ t.refusal = s.refusal) ∧
    ∃ t, exec (.stop go) s = .next t ∧ t.refusal = s.refusal

/-! ### The event unit -/

/-- A raise sets the pending flag of its source, whatever its priority, and does nothing to a flag already set, to the in-service
flag or to another source; the pending summary shows every pending source, and one in service is not presented (R178). IRQ is
asserted exactly while some source is pending, not in service and above the threshold; a priority of 0 or a threshold of 7
presents nothing, and a hardware reset releases IRQ, during it and at its end (R179). -/
def Obligations.RaisesAndIrq : Prop :=
  (∀ (s : State) (e : EventSource),
    (s.raise e).events.at e.ix = { s.events.at e.ix with pending := true } ∧
    (∀ k, k ≠ e.ix → (s.raise e).events.at k = s.events.at k) ∧
    s.raise e = { s with events := (s.raise e).events } ∧
    (s.raise e).events.threshold = s.events.threshold ∧
    (s.pendingOf e = true → s.raise e = s)) ∧
  (∀ (s : State) (k : Fin 12), (s.reportWord 38).getLsbD (k.val + 1) = (s.events.at k).pending) ∧
  (∀ (u : EventUnit) (k : Fin 12), (u.at k).inService = true → u.presentable k = false) ∧
  (∀ s : State, s.irqAsserted = true ↔ s.bus.resetLow = false ∧ s.bus.power = .ended ∧
    ∃ k, (s.events.at k).pending = true ∧ (s.events.at k).inService = false ∧
      s.events.threshold < (s.events.at k).priority) ∧
  (∀ (u : EventUnit) (k : Fin 12), (u.at k).priority = 0 ∨ u.threshold = 7 → u.presentable k = false) ∧
  (∀ s : State, ∀ c ∈ [Instr.resetLineAsserted, .powerOnReset .applied],
    ∃ t, exec c s = .next t ∧ t.irqAsserted = false) ∧
  ∀ (straps : Fin 8) (s : State),
    (∃ t, exec (.powerOnReset (.stable straps)) s = .next t ∧ t.irqAsserted = false) ∧
    (s.bus.resetLow = true → ∃ t, exec (.resetLineReleased straps) s = .next t ∧ t.irqAsserted = false)

/-- A claim read, whatever its byte enables, returns the presentable source of highest priority, the lower number among
equals, clears its pending flag and sets its in-service flag; with none it returns 0 and changes nothing (R180). A complete write
with byte 3 enabled clears the in-service flag of the named source; every other write to the claim word only reaches memory
(R181). -/
def Obligations.ClaimReadAndCompleteWrite : Prop :=
  (∀ (i : Initiator) (be : Enables) (s : State), s.portFree →
    (∀ k : Fin 12, s.events.presentable k = true →
      (∀ j, s.events.presentable j = true →
        (s.events.at j).priority < (s.events.at k).priority ∨
        ((s.events.at j).priority = (s.events.at k).priority ∧ k ≤ j)) →
      exec (.claimRead i be) s =
        .next { s with
          bus := { s.bus with readData := BitVec.ofNat 32 (k.val + 1) }
          events := s.events.put k { s.events.at k with pending := false, inService := true } }) ∧
    ((∀ k, s.events.presentable k = false) →
      exec (.claimRead i be) s = .next { s with bus := { s.bus with readData := 0 } })) ∧
  ∀ (i : Initiator) (d : Word) (be : Enables) (s : State), s.portFree →
    (∀ k : Fin 12, be.getLsbD 0 = true → d.toNat % 256 = k.val + 1 → (s.events.at k).inService = true →
      exec (.completeWrite i d be) s =
        .next { s with
          mem := s.mem.writeWord (stripAddr s.bus.position 37) d be
          events := s.events.put k { s.events.at k with inService := false } }) ∧
    ((be.getLsbD 0 = false ∨ d.toNat % 256 = 0 ∨ 12 < d.toNat % 256 ∨
        ∃ k : Fin 12, d.toNat % 256 = k.val + 1 ∧ (s.events.at k).inService = false) →
      exec (.completeWrite i d be) s =
        .next { s with mem := s.mem.writeWord (stripAddr s.bus.position 37) d be })

/-- SET EVENTS writes the twelve priorities and the threshold, each clamped to 7, keeps every pending and in-service flag,
and completes with DONE-CLAMPED when a value was clamped, else with DONE (R170). -/
def Obligations.SetEventsWritesPriorities : Prop :=
  ∀ (go : GoAccess) (s : State), s.takesCommands →
    ∃ u : EventUnit,
      exec (.setEvents go) s =
        .next { s.completed 0x06 go.tag
            (if (∃ k, 7 < priorityNumber s.mailbox[0] s.mailbox[1] k) ∨ 7 < s.mailbox[1].toNat % 16 then .doneClamped
              else .done) with
          events := u } ∧
      u.threshold.val = min 7 (s.mailbox[1].toNat % 16) ∧
      ∀ k, (u.at k).priority.val = min 7 (priorityNumber s.mailbox[0] s.mailbox[1] k) ∧
        (u.at k).pending = (s.events.at k).pending ∧ (u.at k).inService = (s.events.at k).inService

/-! ### Configuration commands -/

/-- SET IDENTITY is refused outside TRANSPARENT and for an own node of 0 or 65535; else it sets the own node, the realm seed
and the own sequences, and, in a state whose destinations are unique, the route entry and the wanted entry of the new own node are
gone (R167, R97). -/
def Obligations.SetIdentityResult : Prop :=
  ∀ (go : GoAccess) (s : State), s.takesCommands →
    let node := s.mailbox[0].extractLsb' 16 16
    (s.engine.state ≠ .transparent → exec (.setIdentity go) s = .next (s.completed 0x01 go.tag .wrongState)) ∧
    (s.engine.state = .transparent → node = 0 ∨ node = 0xFFFF#16 →
      exec (.setIdentity go) s = .next (s.completed 0x01 go.tag .badArgument)) ∧
    (s.engine.state = .transparent → node ≠ 0 → node ≠ 0xFFFF#16 → s.destinationsUnique →
      ∃ routes : Vector RouteEntry 256,
        exec (.setIdentity go) s =
          .next { s.completed 0x01 go.tag .done with
            identity := { ownNode := node, realmSeed := s.mailbox[0].extractLsb' 0 16 }
            overlay :=
              { s.overlay with
                helloSeq := s.mailbox[1].extractLsb' 16 16, noticeSeq := s.mailbox[1].extractLsb' 0 16 }
            wanted := s.wanted.filter fun w => w.dest != node
            routes := routes } ∧
        ∀ i : RouteIx, routes[i.val] =
          if (s.route i).state ≠ .empty ∧ (s.route i).dest = node then RouteEntry.empty else s.route i)

/-- SET ROLES is refused outside TRANSPARENT, and for a value that is no role or a mesh port given twice; else all eight roles
are replaced at once (R3). SET REGION is refused outside TRANSPARENT and for fields out of range; a count of 0 makes the descriptor
absent; a count of 1..256 makes it present, unless its base is not a multiple of its size, it ends beyond the port space, it meets
another present region or the control strip, or the slots would be more than 512 (R4). -/
def Obligations.SetRolesAndSetRegion : Prop :=
  (∀ (go : GoAccess) (s : State), s.takesCommands →
    let n := roleNumber s.mailbox[0]
    (s.engine.state ≠ .transparent → exec (.setRoles go) s = .next (s.completed 0x03 go.tag .wrongState)) ∧
    (s.engine.state = .transparent →
      ((∃ i, 4 < n i) ∨ ∃ i j, i ≠ j ∧ n i = n j ∧ 2 ≤ n i ∧ n i ≤ 4) →
      exec (.setRoles go) s = .next (s.completed 0x03 go.tag .badArgument)) ∧
    (s.engine.state = .transparent → (∀ i, n i ≤ 4) →
      (∀ i j, i ≠ j → n i = n j → n i < 2) →
      ∃ roles : Vector Role 8,
        exec (.setRoles go) s =
          .next { s.completed 0x03 go.tag .done with bus := { s.bus with roles := roles } } ∧
        ∀ i : Initiator, roles[i.val] = match n i with
          | 0 => .ignored | 1 => .software | 2 => .mesh 0 | 3 => .mesh 1 | _ => .mesh 2)) ∧
  ∀ (go : GoAccess) (s : State), s.takesCommands →
    let ix := s.mailbox[0].toNat / 0x1000000
    let base := s.mailbox[0].extractLsb' 0 24
    let code := s.mailbox[1].toNat / 0x1000000
    let count := s.mailbox[1].toNat % 0x10000
    let first := base.toNat
    let last := first + 512 * 2 ^ code * count - 1
    (s.engine.state ≠ .transparent → exec (.setRegion go) s = .next (s.completed 0x02 go.tag .wrongState)) ∧
    (s.engine.state = .transparent → 3 < ix ∨ 3 < code ∨ 256 < count →
      exec (.setRegion go) s = .next (s.completed 0x02 go.tag .badArgument)) ∧
    ∀ (hi : ix < 4) (hc : code < 4), s.engine.state = .transparent → count ≤ 256 →
      (count = 0 → exec (.setRegion go) s =
        .next { s.completed 0x02 go.tag .done with bus := { s.bus with regions := s.bus.regions.set ix none } }) ∧
      (let r : Region := { base := base, sizeCode := ⟨code, hc⟩, count := count }
       let refused := first % (512 * 2 ^ code) ≠ 0 ∨ 0xFFFFFF < last ∨
        (∃ (j : Fin 4) (q : Region), j.val ≠ ix ∧ s.bus.regions[j.val] = some q ∧
          first < q.limit ∧ q.base.toNat ≤ last) ∨
        (first ≤ s.bus.position.val * 0x200000 + 0x1FFFFF ∧ s.bus.position.val * 0x200000 + 0x1FFC00 ≤ last) ∨
        512 < totalSlots (s.bus.regions.set ix (some r)).toList
       0 < count →
        (refused → exec (.setRegion go) s = .next (s.completed 0x02 go.tag .badArgument)) ∧
        (¬refused → exec (.setRegion go) s =
          .next { s.completed 0x02 go.tag .done with
            bus := { s.bus with regions := s.bus.regions.set ix (some r) } }))

/-- SET TIMING writes its ten settings, each clamped into its range; a running sample timer is reloaded in immediate mode and left
in background mode (R168, R156). SET METRIC writes the hop penalty, hysteresis, quality floor and signal floor, clamped (R169).
Each completes with DONE-CLAMPED when a field was clamped (Table 2 of chapter 10). -/
def Obligations.SetTimingAndMetricResult : Prop :=
  (∀ (go : GoAccess) (s : State), s.takesCommands →
    let a1 := s.mailbox[0]
    let a2 := s.mailbox[1]
    let a3 := s.mailbox[2]
    let f := fun i => let x := (timingNumbers a1 a2 a3)[i]?.getD (0, 0, 0); intoRange x.2.1 x.2.2 x.1
    exec (.setTiming go) s =
      .next { s.completed 0x04 go.tag
          (if ∃ x ∈ timingNumbers a1 a2 a3, x.1 < x.2.1 ∨ x.2.2 < x.1 then .doneClamped else .done) with
        settings :=
          { s.settings with
            sampleInterval := 10 * f 0, routeExpiry := f 1, deadLimit := f 2, probation := f 3, settle := f 4
            floodLifetime := f 5, waitLimit := f 6, holdLimit := f 7, outcomeDeadline := f 8, purgeWindow := f 9 }
        engine :=
          { s.engine with
            nextExpiry :=
              if a1.getLsbD 0 = true then s.engine.nextExpiry.map fun _ => s.now + 10 * f 0
              else s.engine.nextExpiry } }) ∧
  ∀ (go : GoAccess) (s : State), s.takesCommands →
    let hysteresis := s.mailbox[0].toNat / 0x10000 % 16
    let floor := s.mailbox[0].toNat % 0x2000
    let signal := (s.mailbox[1].extractLsb' 0 8).toInt
    exec (.setMetric go) s =
      .next { s.completed 0x05 go.tag
          (if 8 < hysteresis ∨ 4096 < floor ∨ 0 < signal then .doneClamped else .done) with
        settings :=
          { s.settings with
            hopPenalty := s.mailbox[0].toNat / 0x1000000, hysteresis := min 8 hysteresis
            qualityFloor := min 4096 floor, signalFloor := min 0 signal } }

/-! ### START, STOP, RESTART -/

/-- START tests, in order, the engine state, the own node, the regions and the mesh ports, and a refused START changes nothing but
the status (R150). One that passes: LEARNING with settle count 0, an empty slot table and flood cache, the timer and, for a set
that is not empty, the purge window running; the LOST and PURGING links join the pending evict set, and a walk takes the
pending work when there is any (R151, R133, R122). Stated for a state with no walk in progress: in TRANSPARENT there is none. -/
def Obligations.StartResult : Prop :=
  (∀ (go : GoAccess) (s : State), s.takesCommands →
    (s.engine.state ≠ .transparent ∨ s.identity.ownNode = 0 →
      exec (.start go) s = .next (s.completed 0x10 go.tag .wrongState)) ∧
    (s.engine.state = .transparent → s.identity.ownNode ≠ 0 →
      (∀ j : Fin 4, s.bus.regions[j.val] = none) ∨ (∀ i p, s.role i ≠ .mesh p) →
      exec (.start go) s = .next (s.completed 0x10 go.tag .badArgument))) ∧
  ∀ (go : GoAccess) (s : State), s.takesCommands → s.engine.state = .transparent → s.walker.walk = none →
    s.identity.ownNode ≠ 0 → (∃ j : Fin 4, s.bus.regions[j.val] ≠ none) → (∃ i p, s.role i = .mesh p) →
    ∃ walker : Walker,
      exec (.start go) s =
        .next { s.completed 0x10 go.tag .done with
          slots := Vector.replicate 512 SlotRecord.vacant
          verdicts := { s.verdicts with flood := [] }
          engine := { state := .learning, settle := 0, nextExpiry := some (s.now + s.settings.sampleInterval) }
          purge :=
            { s.purge with window := if s.purge.set = [] then none else some (s.now + s.settings.purgeWindow) }
          walker := walker } ∧
      (let dying := fun i => (s.link i).state = .lost ∨ (s.link i).state = .purging
       let work := s.walker.refresh = true ∨ s.walker.flush = true ∨ s.walker.evict ≠ [] ∨ ∃ i, dying i
       (¬work → walker = s.walker) ∧
       (work → walker.refresh = false ∧ walker.flush = false ∧ walker.evict = [] ∧
        ∃ w, walker.walk = some w ∧ w.refresh = s.walker.refresh ∧ w.flush = s.walker.flush ∧ w.next = 0 ∧
          ∀ i, i ∈ w.evict ↔ i ∈ s.walker.evict ∨ dying i))

/-- STOP is refused in TRANSPARENT; else the engine is TRANSPARENT with settle count 0 and the timer, the records, the bindings,
the verdict work, the sweep, the outcomes, the purge window and the walk are gone; everything else is kept (R153). RESTART resets
every block, keeps the strap position, records COMMAND, and leaves a status word that names it with no tag (R159, R160, R164). That
the queue, the time base, memory and the data lines are kept, and the copy of A1 to A3 is 0, are the model's choices (logs 6, 9,
12, 23 and 32). -/
def Obligations.StopAndRestart : Prop :=
  (∀ (go : GoAccess) (s : State), s.takesCommands →
    (s.engine.state = .transparent → exec (.stop go) s = .next (s.completed 0x11 go.tag .wrongState)) ∧
    (s.engine.state ≠ .transparent →
      exec (.stop go) s =
        .next { s.completed 0x11 go.tag .done with
          engine := { state := .transparent, settle := 0, nextExpiry := none }
          slots := Vector.replicate 512 SlotRecord.vacant
          overlay := { s.overlay with bindings := Vector.replicate 3 none }
          verdicts := { s.verdicts with work := none, waiting := [] }
          metric := { sweep := none, request := false }
          outcomes := []
          purge := { s.purge with window := none }
          walker := { s.walker with walk := none } })) ∧
  ∀ (go : GoAccess) (s : State), s.takesCommands →
    exec (.restart go) s =
      .next { State.reset with
        pending := s.pending, now := s.now, mem := s.memWithGo 0x12 go.tag
        bus := { BusTap.reset s.bus.position with readData := s.bus.readData }
        cause := { last := .command, count := min 255 (s.cause.count + 1) }
        command :=
          { code := 0x12, tag := 0, tagPresent := false, running := false, result := .done,
            args := Vector.replicate 3 0 } }

/-! ### Commands on tables and lists -/

/-- PIN ROUTE refuses its argument errors; else it, UNPIN, READ ROUTE, READ WANTED and RELEASE WANTED go RUNNING, to wait for
their step (R113, R114, R172, R119, R163). FLUSH ROUTES is refused in TRANSPARENT; else it goes RUNNING with the flush flag
set, and a walk that carries the flush begins at once when none is in progress (R130, R121, R122). -/
def Obligations.StepCommandsAndFlushGoRunning : Prop :=
  (∀ (go : GoAccess) (s : State), s.takesCommands →
    (let dest := s.mailbox[0].extractLsb' 16 16
     let node := s.mailbox[0].extractLsb' 0 16
     let bad := fun n : Node => n = 0 ∨ n = 0xFFFF#16 ∨ n = s.identity.ownNode
     let refused := bad dest ∨ bad node ∨ 2 < s.mailbox[1].toNat / 0x1000000 ∨ s.mailbox[1].toNat % 0x10000 = 65535
     (refused → exec (.pinRoute go) s = .next (s.completed 0x20 go.tag .badArgument)) ∧
     (¬refused → exec (.pinRoute go) s = .next (s.wentRunning 0x20 go.tag))) ∧
    exec (.unpin go) s = .next (s.wentRunning 0x21 go.tag) ∧
    exec (.readRoute go) s = .next (s.wentRunning 0x30 go.tag) ∧
    exec (.readWanted go) s = .next (s.wentRunning 0x33 go.tag) ∧
    exec (.releaseWanted go) s = .next (s.wentRunning 0x34 go.tag)) ∧
  ∀ (go : GoAccess) (s : State), s.takesCommands →
    (s.engine.state = .transparent → exec (.flushRoutes go) s = .next (s.completed 0x25 go.tag .wrongState)) ∧
    (s.engine.state ≠ .transparent → s.walker.walk ≠ none →
      exec (.flushRoutes go) s =
        .next { s.wentRunning 0x25 go.tag with walker := { s.walker with flush := true } }) ∧
    (s.engine.state ≠ .transparent → s.walker.walk = none →
      exec (.flushRoutes go) s =
        .next { s.wentRunning 0x25 go.tag with
          walker :=
            { refresh := false, flush := false, evict := []
              walk := some
                { refresh := s.walker.refresh, flush := true, evict := s.walker.evict, next := 0 } } })

/-- PURGE ADD's refusals in their order, and its effect: the pair joins the purge set and the window restarts, unless the link
is LOST or PURGING, and the node joins the bar list when the bar flag is set (R80). PURGE CANCEL empties the purge set and stops
the window; UNBAR removes a node from the bar list, or is refused with NOT-FOUND; CLEAR COUNTERS sets every counter to 0; each
changes nothing else (R82, R83, R174). -/
def Obligations.PurgeBarAndClearCommands : Prop :=
  (∀ (go : GoAccess) (s : State), s.takesCommands →
    let node := s.mailbox[0].extractLsb' 16 16
    let port := s.mailbox[0].toNat / 0x100 % 256
    let bar := s.mailbox[0].getLsbD 0
    let argErr := node = 0 ∨ node = 0xFFFF#16 ∨ 2 < port
    (s.engine.state = .transparent → exec (.purgeAdd go) s = .next (s.completed 0x22 go.tag .wrongState)) ∧
    (s.engine.state ≠ .transparent → argErr →
      exec (.purgeAdd go) s = .next (s.completed 0x22 go.tag .badArgument)) ∧
    ∀ hp : port < 3, s.engine.state ≠ .transparent → ¬argErr →
      let n : LinkName := { node := node, port := ⟨port, hp⟩ }
      ((∀ i, (s.link i).state ≠ .free → ¬((s.link i).node = node ∧ (s.link i).port = n.port)) →
        exec (.purgeAdd go) s = .next (s.completed 0x22 go.tag .notFound)) ∧
      ∀ i, s.findLink n = some i →
        let joins := heardState (s.link i).state
        let full := (joins ∧ n ∉ s.purge.set ∧ 8 ≤ s.purge.set.length) ∨
          (bar = true ∧ node ∉ s.purge.bars ∧ 8 ≤ s.purge.bars.length)
        (full → exec (.purgeAdd go) s = .next (s.completed 0x22 go.tag .full)) ∧
        (¬full → ∃ purge : PurgeUnit,
          exec (.purgeAdd go) s = .next { s.completed 0x22 go.tag .done with purge := purge } ∧
          (joins → purge.set = (if n ∈ s.purge.set then s.purge.set else s.purge.set ++ [n]) ∧
            purge.window = some (s.now + s.settings.purgeWindow)) ∧
          (¬joins → purge.set = s.purge.set ∧ purge.window = s.purge.window) ∧
          purge.bars = if bar = true ∧ node ∉ s.purge.bars then s.purge.bars ++ [node] else s.purge.bars)) ∧
  ∀ (go : GoAccess) (s : State), s.takesCommands →
    exec (.purgeCancel go) s =
      .next { s.completed 0x23 go.tag .done with purge := { s.purge with set := [], window := none } } ∧
    (let node := s.mailbox[0].extractLsb' 16 16
     (node ∈ s.purge.bars → exec (.unbar go) s =
       .next { s.completed 0x24 go.tag .done with
         purge := { s.purge with bars := s.purge.bars.filter fun n => n != node } }) ∧
     (node ∉ s.purge.bars → exec (.unbar go) s = .next (s.completed 0x24 go.tag .notFound))) ∧
    exec (.clearCounters go) s =
      .next { s.completed 0x35 go.tag .done with counters := Vector.replicate 16 0 }

/-- READ LINK and READ SLOT copy one record into the snapshot at the go write, with kind, tag and key, or are refused with
BAD-ARGUMENT (R171, R173; layouts of Table 9 of chapter 2). -/
def Obligations.ReadLinkAndReadSlot : Prop :=
  ∀ (go : GoAccess) (s : State), s.takesCommands →
    (31 < s.mailbox[0].toNat % 256 → exec (.readLink go) s = .next (s.completed 0x31 go.tag .badArgument)) ∧
    (∀ i : LinkIx, s.mailbox[0].toNat % 256 = i.val →
      exec (.readLink go) s =
        .next { s.completed 0x31 go.tag .done with
          snapshot :=
            { kind := .link, tag := go.tag, key := BitVec.ofNat 16 i.val
              area := areaOf
                [packed [place 29 (s.link i).state.code, place 24 (s.link i).port.val, place 0 (s.link i).node.toNat],
                 packed [place 16 (s.link i).qRx, place 0 (s.link i).qTx],
                 packed [place 24 (s.link i).txSamples, placeFlag 23 (s.link i).heard, place 16 (s.link i).silent,
                   place 12 (s.link i).probation, place 8 (s.link i).rate.val,
                   (BitVec.ofInt 8 (s.link i).signal).zeroExtend 32],
                 packed [place 16 (s.link i).helloSeq.toNat, place 0 (s.link i).cost]] } }) ∧
    (s.slotCount ≤ s.mailbox[0].toNat % 0x10000 →
      exec (.readSlot go) s = .next (s.completed 0x32 go.tag .badArgument)) ∧
    ∀ k : SlotNo, s.mailbox[0].toNat % 0x10000 = k.val → k.val < s.slotCount →
      exec (.readSlot go) s =
        .next { s.completed 0x32 go.tag .done with
          snapshot :=
            { kind := .slot, tag := go.tag, key := BitVec.ofNat 16 k.val
              area := areaOf ((s.slot k).snapshotWords s.now) } }

/-- The class-3 steps of READ ROUTE, READ WANTED and RELEASE WANTED: the copy, laid out as Table 9 of chapter 2, the removal of
answered entries, NOT-FOUND, and in every case the completion with COMMAND-DONE (R172, R119, R166). That a choosing step which
waits behind this step is requested when it has ended is the model's reading of R104 (log 16). -/
def Obligations.ReadAndReleaseSteps : Prop :=
  ∀ (s : State), s.granted .command = true →
    let done := fun r : Result =>
      { s.afterOtherStep with
        command := { s.command with running := false, result := r }
        events := s.events.put 9 { s.events.at 9 with pending := true } }
    let dest := s.command.args[0].extractLsb' 16 16
    (s.command.code = 0x30 →
      (∀ i, s.findRoute dest = some i → exec .readRouteStep s =
        .next { done .done with
          snapshot :=
            { kind := .route, tag := s.command.tag, key := dest, area := areaOf (s.route i).snapshotWords } }) ∧
      (s.findRoute dest = none → exec .readRouteStep s = .next (done .notFound))) ∧
    (s.command.code = 0x33 → exec .readWantedStep s =
      .next { done .done with
        snapshot :=
          { kind := .wanted, tag := s.command.tag, key := 0, area := areaOf (s.wanted.map WantedEntry.snapshotWord) }
        wanted :=
          if s.command.args[0].getLsbD 0 = true then s.wanted.filter fun w => w.state == .waiting else s.wanted }) ∧
    (s.command.code = 0x34 →
      ((∃ w ∈ s.wanted, w.dest = dest ∧ w.state ≠ .waiting) → exec .releaseWantedStep s =
        .next { done .done with wanted := s.wanted.filter fun w => w.dest != dest }) ∧
      ((∀ w ∈ s.wanted, w.dest = dest → w.state = .waiting) →
        exec .releaseWantedStep s = .next (done .notFound)))

/-- The class-3 steps of PIN ROUTE and UNPIN: the entry found or taken gets the pin that the copied arguments give (node in A1
[15..0], port in A2 [31..24], cost in A2 [15..0]), or loses its pin, and is reselected, or the command
completes with FULL or NOT-FOUND and changes no table; every other entry and the neighbour table stay (R113, R114). The selection
makes its reports, ROUTE-FOUND with the wanted entry and GATEWAY-CHANGE, and no other event but COMMAND-DONE is raised (R108,
R117). -/
def Obligations.PinSteps : Prop :=
  ∀ (s : State), s.granted .command = true →
    let dest := s.command.args[0].extractLsb' 16 16
    let ended := fun (t : State) (r : Result) =>
      t.command = { s.command with running := false, result := r } ∧ t.pendingOf .commandDone = true ∧
      t.links = s.links ∧ t.counters = s.counters ∧ t.mem = s.mem ∧ t.bus = s.bus ∧ t.slots = s.slots ∧
      s.onlyRaises t [.commandDone, .routeFound, .gatewayChange]
    let onlyAt := fun (t : State) (i : RouteIx) (e : RouteEntry) =>
      t.route i = s.selected e ∧ (∀ j, j ≠ i → t.route j = s.route j) ∧ s.selectionReports t e (s.selected e)
    let unchanged := fun t : State =>
      t.routes = s.routes ∧ t.wanted = s.wanted ∧ s.onlyRaises t [.commandDone]
    (s.command.code = 0x20 →
      (∀ p : Port, s.command.args[1].toNat / 0x1000000 = p.val →
        let pin : Pin :=
          { link := { node := s.command.args[0].extractLsb' 0 16, port := p }, cost := s.command.args[1].toNat % 0x10000 }
        (∀ i, s.findRoute dest = some i →
          ∃ t, exec .pinRouteStep s = .next t ∧ ended t .done ∧ onlyAt t i { s.route i with pin := some pin }) ∧
        (s.findRoute dest = none → ∀ i, s.takeable = some i →
          ∃ t, exec .pinRouteStep s = .next t ∧ ended t .done ∧
            onlyAt t i { RouteEntry.empty with state := .orphan, dest := dest, pin := some pin })) ∧
      (s.findRoute dest = none → s.takeable = none →
        ∃ t, exec .pinRouteStep s = .next t ∧ ended t .full ∧ unchanged t)) ∧
    (s.command.code = 0x21 →
      (∀ i, s.findRoute dest = some i → (s.route i).pin ≠ none →
        ∃ t, exec .unpinStep s = .next t ∧ ended t .done ∧ onlyAt t i { s.route i with pin := none }) ∧
      ((∀ i, s.findRoute dest = some i → (s.route i).pin = none) →
        ∃ t, exec .unpinStep s = .next t ∧ ended t .notFound ∧ unchanged t))

/-! ### Slots: receive passes, software writes, landings, outcomes -/

/-- A mesh-port write to a header word of the slot it is filling: words 3..6 are captured, word 2 restarts the pass with the
captured header and marks cleared, nothing is counted. To a slot it is not filling: a receive pass begins with a fresh record
and the word captured, and what the slot did ends as Table 5 of chapter 1 counts it (stated for a port with no other slot
FILLING; FillIsAbandoned states the other case). The write reaches memory (R9, R8, R148). -/
def Obligations.ReceiveHeaderWriteResult : Prop :=
  (∀ (a : WriteAccess) (p : Port) (k : SlotNo) (w : HeaderIx) (s : State),
    s.meshAt a.initiator a.addr p k (w.val + 2) → (s.slot k).state = .filling → (s.slot k).passPort = some p →
    ∃ r : SlotRecord,
      exec (.receiveHeaderWrite a) s =
        .next { s with mem := s.mem.writeWord a.addr a.data a.be, slots := s.slots.set k.val r } ∧
      SlotRecord.captures
        (if w = 0 then { s.slot k with words := Vector.replicate 5 0, marks := Vector.replicate 5 0 } else s.slot k)
        r w a.data a.be) ∧
  ∀ (a : WriteAccess) (p : Port) (k : SlotNo) (w : HeaderIx) (s : State),
    s.meshAt a.initiator a.addr p k (w.val + 2) →
    ¬((s.slot k).state = .filling ∧ (s.slot k).passPort = some p) →
    (∀ j, j ≠ k → (s.slot j).state = .filling → (s.slot j).passPort ≠ some p) →
    ∃ t, exec (.receiveHeaderWrite a) s = .next t ∧ t.mem = s.mem.writeWord a.addr a.data a.be ∧
      SlotRecord.captures
        { SlotRecord.vacant with state := .filling, source := some .received, passPort := some p }
        (t.slot k) w a.data a.be ∧
      (∀ j, j ≠ k → t.slot j = s.slot j) ∧
      t.counters =
        (match (s.slot k).state with
         | .vacant | .landed | .composed => s.counters
         | .filling | .inSend => countedAt s.counters 14
         | .awaitingOutcome => countedAt s.counters 10) ∧
      (∀ q, (s.slot k).state = .inSend → (s.slot k).passPort = some q → t.binding q = none) ∧
      (∀ q, ¬((s.slot k).state = .inSend ∧ (s.slot k).passPort = some q) → t.binding q = s.binding q) ∧
      (∀ l ∈ t.landings, l.slot = k → l.current = false) ∧ t.events = s.events ∧ t.bus = s.bus ∧
      t.links = s.links ∧ t.routes = s.routes ∧ t.outcomes = s.outcomes

/-- In a state whose passes are owned, a new receive pass of port `p` makes the other slot that `p` was filling VACANT and counts it
in counter 15; a restart abandons nothing; a stray landing leaves every other slot as it was (R10). -/
def Obligations.FillIsAbandoned : Prop :=
  (∀ (a : WriteAccess) (p : Port) (j k : SlotNo) (w : HeaderIx) (s : State), s.passesOwned →
    s.meshAt a.initiator a.addr p k (w.val + 2) → j ≠ k →
    (s.slot j).state = .filling → (s.slot j).passPort = some p →
    ∃ t, exec (.receiveHeaderWrite a) s = .next t ∧ t.slot j = SlotRecord.vacant ∧
      (t.slot k).state = .filling ∧ (t.slot k).passPort = some p ∧
      (∀ i, i ≠ j → i ≠ k → t.slot i = s.slot i) ∧
      t.counters =
        (match (s.slot k).state with
         | .vacant | .landed | .composed => countedAt s.counters 14
         | .filling | .inSend => countedAt (countedAt s.counters 14) 14
         | .awaitingOutcome => countedAt (countedAt s.counters 10) 14)) ∧
  (∀ (a : WriteAccess) (p : Port) (k : SlotNo) (s : State), s.meshAt a.initiator a.addr p k 2 →
    (s.slot k).state = .filling → (s.slot k).passPort = some p →
    ∃ t, exec (.receiveHeaderWrite a) s = .next t ∧ t.counters = s.counters ∧ ∀ j, j ≠ k → t.slot j = s.slot j) ∧
  (∀ (a : WriteAccess) (p : Port) (j k : SlotNo) (s : State), s.meshAt a.initiator a.addr p k 0 → j ≠ k →
    ¬((s.slot k).state = .filling ∧ (s.slot k).passPort = some p) →
    ∃ t, exec (.strayLanding a) s = .next t ∧ t.slot j = s.slot j)

/-- A software write to a header word: not captured while a radio fills the slot; else captured, with source COMPOSED, the
state COMPOSED unless a pass or its outcome is under way, and the other fields kept; it reaches memory and changes nothing
else (R14). -/
def Obligations.SoftwareHeaderWriteComposes : Prop :=
  ∀ (a : WriteAccess) (k : SlotNo) (w : HeaderIx) (s : State), s.softwareAt a.initiator a.addr k (w.val + 2) →
    ∃ r : SlotRecord,
      exec (.softwareHeaderWrite a) s =
        .next { s with mem := s.mem.writeWord a.addr a.data a.be, slots := s.slots.set k.val r } ∧
      match (s.slot k).state with
      | .filling => r = s.slot k
      | .vacant =>
        SlotRecord.captures { SlotRecord.vacant with state := .composed, source := some .composed } r w a.data a.be
      | .landed | .composed =>
        SlotRecord.captures { s.slot k with state := .composed, source := some .composed } r w a.data a.be
      | .inSend | .awaitingOutcome =>
        SlotRecord.captures { s.slot k with source := some .composed } r w a.data a.be

/-- The status fields of a landing and the fields of an outcome as the words of Tables 4 and 6 of chapter 2 give them, the bits of
disabled bytes taken as zero in a status word (R35, R37); the fields of a captured header as Table 2 of chapter 2 gives them (R26,
R27); the verdict byte, and the word with it in byte 3 (R36); and the header check: a register that starts as the realm seed and
takes the 112 covered bits in frame order, most significant bit first (R33). -/
def Obligations.StatusOutcomeAndHeaderFields : Prop :=
  (∀ (k : SlotNo) (p : Port) (ws : HeaderWords) (ms : HeaderMarks) (d : Word) (be : Enables),
    let l := landingOf k p ws ms d be
    l.slot = k ∧ l.port = p ∧ l.words = ws ∧ l.marks = ms ∧ l.held = be.getLsbD 0 ∧ l.current = true ∧
    l.link = { node := ws[0].extractLsb' 16 16, port := p } ∧
    l.linkError = (be.getLsbD 3 && d.getLsbD 31) ∧
    l.rate.val = (if be.getLsbD 3 = true then d.toNat / 2 ^ 28 % 8 else 0) ∧
    l.length =
      (if be.getLsbD 3 = true then d.toNat / 2 ^ 24 % 8 * 256 else 0) +
      (if be.getLsbD 2 = true then d.toNat / 2 ^ 16 % 256 else 0) ∧
    l.signal = if be.getLsbD 1 = true then (d.extractLsb' 8 8).toInt else 0) ∧
  (∀ (n : LinkName) (d : Word),
    outcomeOf n d =
      { link := n, acked := d.getLsbD 31, attempts := d.toNat / 2 ^ 27 % 16
        rate := ⟨d.toNat / 2 ^ 24 % 8, Nat.mod_lt _ (by decide)⟩ }) ∧
  (∀ h : HeaderWords,
    (hdrTransmitter h).toNat = h[0].toNat / 0x10000 ∧ (hdrReceiver h).toNat = h[0].toNat % 0x10000 ∧
    hdrKind h = h[1].toNat / 2 ^ 28 ∧ hdrFlowClass h = h[1].toNat / 2 ^ 26 % 4 ∧ hdrGateway h = h[1].getLsbD 25 ∧
    hdrBudget h = h[1].toNat / 2 ^ 16 % 256 ∧ (hdrSequence h).toNat = h[1].toNat % 0x10000 ∧
    (hdrOrigin h).toNat = h[2].toNat / 0x10000 ∧ (hdrFinal h).toNat = h[2].toNat % 0x10000 ∧
    hdrStamp h = h[3].toNat / 0x10000 ∧ (hdrCheck h).toNat = h[4].toNat % 0x10000) ∧
  (∀ (code : VerdictCode) (mask : PortMask) (stale : Bool) (d : Word),
    (verdictByte code mask stale).toNat = (if stale = true then 128 else 0) + 16 * mask.toNat + code.toNat ∧
    (withVerdictByte d (verdictByte code mask stale)).toNat =
      d.toNat / 256 * 256 + (verdictByte code mask stale).toNat) ∧
  (∀ x ∈ [(VerdictCode.none, 0), (.forward, 1), (.deliver, 2), (.flood, 3), (.rebroadcast, 4), (.absorb, 5),
      (.undecided, 6), (.late, 7), (.waitRoute, 8), (.dropMalformed, 9), (.dropCheck, 10), (.dropBudget, 11),
      (.dropNoRoute, 12), (.dropDuplicate, 13), (.dropRefused, 14), (.dropLinkError, 15)], x.1.toNat = x.2) ∧
  ∀ (seed : Half) (w3 w4 w5 w6 : Word),
    headerCheck seed w3 w4 w5 w6 = (coveredBits w3 w4 w5 w6).foldl checkBit seed

/-- A landing that arrives while the Verdict Unit is busy: the record lands and is counted; with room in the wait list the
landing waits there, its write held when the verdict byte is enabled and passed to memory otherwise; with 4 waiting it is
LATE at once, with code 7, mask 0 and the stale-link flag, counted in counter 8 and raised (R11, R22, R42, R56). R42 says so while
a computation is in progress; that a landing behind waiting ones is taken alike when none is, is the model's choice (log 17). -/
def Obligations.LandingWaitsOrIsLate : Prop :=
  ∀ (a : WriteAccess) (p : Port) (k : SlotNo) (s : State), s.meshAt a.initiator a.addr p k 0 →
    (s.slot k).state = .filling → (s.slot k).passPort = some p →
    s.verdicts.work ≠ none ∨ s.verdicts.waiting ≠ [] →
    let r := s.slot k
    let l := landingOf k p r.words r.marks a.data a.be
    (s.verdicts.waiting.length < 4 →
      exec (.landing a) s =
        .next { s with
          slots := s.slots.set k.val (r.landedAt p)
          counters := countedAt s.counters 0
          verdicts := { s.verdicts with waiting := s.verdicts.waiting ++ [l] }
          mem := if a.be.getLsbD 0 = true then s.mem else s.mem.writeWord a.addr a.data a.be
          bus :=
            if a.be.getLsbD 0 = true then { s.bus with held := some (.landing a.addr a.data a.be l.link) }
            else s.bus }) ∧
    (4 ≤ s.verdicts.waiting.length →
      exec (.landing a) s =
        .next { s with
          slots := s.slots.set k.val { r.landedAt p with verdict := .late, verdictLink := none, refusal := none }
          counters := countedAt (countedAt s.counters 0) 7
          events := s.events.put 6 { s.events.at 6 with pending := true }
          mem := s.mem.writeWord a.addr
            (if a.be.getLsbD 0 = true then withVerdictByte a.data (verdictByte .late 0 (s.staleFlag l.link))
              else a.data) a.be })

/-- A landing that finds the Verdict Unit free. Decided by a stage: the record holds the verdict, memory gets the write with the
verdict byte when it is enabled, the verdict is counted, and nothing is held, waiting or in progress. In need of a table step: the
write is held when its verdict byte is enabled, and the computation waits for the learning step of a notice, with the ports that
have a LIVE link and the permission, or for the forwarding lookup. In both cases the frame's link, the hello that it is and the
flood cache are treated as R48, R65 to R67 and R52 give, and no route or wanted entry changes (R41 to R53, R55, R56, R59, R62). -/
def Obligations.LandingWithVerdictUnitFree : Prop :=
  ∀ (a : WriteAccess) (p : Port) (k : SlotNo) (s : State), s.meshAt a.initiator a.addr p k 0 →
    (s.slot k).state = .filling → (s.slot k).passPort = some p → s.verdicts.work = none → s.verdicts.waiting = [] →
    let r := s.slot k
    let l := landingOf k p r.words r.marks a.data a.be
    ∃ t, exec (.landing a) s = .next t ∧ s.frameEffects t l (countedAt s.counters 0) ∧ t.verdicts.waiting = [] ∧
      t.routes = s.routes ∧ t.wanted = s.wanted ∧ t.outcomes = s.outcomes ∧ t.purge = s.purge ∧
      t.walker = s.walker ∧ t.overlay = s.overlay ∧
      (∀ v, s.stageVerdict l = some v →
        t.verdicts.work = none ∧ t.bus = s.bus ∧
        t.slots = s.slots.set k.val { r.landedAt p with verdict := v.1, verdictLink := none, refusal := v.2.2 } ∧
        t.mem = s.mem.writeWord a.addr
          (if a.be.getLsbD 0 = true then withVerdictByte a.data (verdictByte v.1 v.2.1 (s.staleFlag l.link))
            else a.data) a.be) ∧
      (s.stageVerdict l = none →
        t.verdicts.work = some { landing := l, phase := s.stepAwaited l } ∧ t.slots = s.slots.set k.val (r.landedAt p) ∧
        t.mem = (if a.be.getLsbD 0 = true then s.mem else s.mem.writeWord a.addr a.data a.be) ∧
        t.bus = (if a.be.getLsbD 0 = true then { s.bus with held := some (.landing a.addr a.data a.be l.link) }
          else s.bus))

/-- A stray landing: what the slot did ends as for a new receive pass, the record is a fresh LANDED one with verdict
DROP-MALFORMED, the landing and the drop are counted, and memory gets the verdict byte with the stale-link flag set, when
it is enabled; no table changes (R12, R56, R62). -/
def Obligations.StrayLandingIsMalformed : Prop :=
  ∀ (a : WriteAccess) (p : Port) (k : SlotNo) (s : State), s.meshAt a.initiator a.addr p k 0 →
    ¬((s.slot k).state = .filling ∧ (s.slot k).passPort = some p) →
    let ended :=
      match (s.slot k).state with
      | .vacant | .landed | .composed => s.counters
      | .filling | .inSend => countedAt s.counters 14
      | .awaitingOutcome => countedAt s.counters 10
    ∃ t, exec (.strayLanding a) s = .next t ∧
      t.slots = s.slots.set k.val
        { SlotRecord.vacant with
          state := .landed, source := some .received, landingPort := some p, verdict := .dropMalformed } ∧
      t.counters = countedAt (countedAt ended 0) 5 ∧
      t.mem = s.mem.writeWord a.addr
        (if a.be.getLsbD 0 = true then withVerdictByte a.data 0x89#8 else a.data) a.be ∧
      t.bus = s.bus ∧ t.links = s.links ∧ t.routes = s.routes ∧ t.wanted = s.wanted ∧ t.events = s.events ∧
      t.verdicts.flood = s.verdicts.flood ∧ (∀ l ∈ t.landings, l.slot = k → l.current = false) ∧
      ∀ q, (s.slot k).state = .inSend → (s.slot k).passPort = some q → t.binding q = none

/-- A matched outcome: the slot returns to LANDED or COMPOSED by its source, with pass port and deadline removed and the sent
link kept; with a sent link the outcome joins the queue, or is lost, counted and raised when the queue holds 16; without one
it is ignored; the write reaches memory (R19, R69). The expiry of the deadline ends the wait alike, counted in counter 11,
with no outcome queued (R20); the time base is at or past the deadline then (log 7). -/
def Obligations.OutcomeWaitEnds : Prop :=
  (∀ (a : WriteAccess) (p : Port) (k : SlotNo) (s : State), s.meshAt a.initiator a.addr p k 1 → a.be = 0xF#4 →
    (s.slot k).state = .awaitingOutcome → (s.slot k).passPort = some p →
    let r := s.slot k
    let back := { r with
      state := if r.source = some .composed then .composed else .landed, passPort := none, deadline := none }
    let ended := { s with
      mem := s.mem.writeWord a.addr a.data a.be, slots := s.slots.set k.val back }
    (r.sentLink = none → exec (.matchedOutcome a) s = .next ended) ∧
    ∀ n, r.sentLink = some n →
      (s.outcomes.length < 16 →
        exec (.matchedOutcome a) s = .next { ended with outcomes := s.outcomes ++ [outcomeOf n a.data] }) ∧
      (16 ≤ s.outcomes.length →
        exec (.matchedOutcome a) s =
          .next { ended with
            counters := countedAt s.counters 10
            events := s.events.put 7 { s.events.at 7 with pending := true } })) ∧
  ∀ (k : SlotNo) (t : Nat) (s : State), s.inReset = false → (s.slot k).state = .awaitingOutcome →
    (s.slot k).deadline = some t →
    exec (.outcomeDeadlineExpiry k) s =
      .next { s with
        now := max s.now t
        slots := s.slots.set k.val
          { s.slot k with
            state := if (s.slot k).source = some .composed then .composed else .landed
            passPort := none, deadline := none }
        counters := countedAt s.counters 10 }

/-- Any other mesh-port write to word 1 (a slot that awaits no outcome, another port than the pass port, a clear enable) is
counted in counter 11, reaches memory, and leaves every record as it was (R21). -/
def Obligations.UnmatchedOutcomeIsCountedAlone : Prop :=
  ∀ (a : WriteAccess) (p : Port) (k : SlotNo) (s : State), s.meshAt a.initiator a.addr p k 1 →
    (s.slot k).state ≠ .awaitingOutcome ∨ (s.slot k).passPort ≠ some p ∨ a.be ≠ 0xF#4 →
    exec (.unmatchedOutcome a) s =
      .next { s with
        mem := s.mem.writeWord a.addr a.data a.be
        counters := s.counters.set 10 (min 65535 (s.counters[10] + 1)) }

/-! ### Verdict work -/

/-- The oldest waiting landing is taken when no computation is in progress; the younger landings wait on. A stage decides it: the
verdict is recorded while the landing owns its record and counted, and a write that is held is released with the verdict byte. Or it
waits for its table step, its write held as before. In both cases its link, the hello that it is and the flood cache are treated as
R48, R65 to R67 and R52 give (R42, R43, R13, R36, R50, R53, R62). That the bar list is read as it stands at the take, also when it has
changed since the landing, is the model's choice (log 31). -/
def Obligations.WaitListTakesTheOldest : Prop :=
  ∀ (l : Landing) (rest : List Landing) (s : State), s.inReset = false → s.verdicts.work = none →
    s.verdicts.waiting = l :: rest →
    ∃ t, exec .verdictWaitListTake s = .next t ∧ t.verdicts.waiting = rest ∧ t.routes = s.routes ∧
      t.wanted = s.wanted ∧ t.outcomes = s.outcomes ∧ t.purge = s.purge ∧ t.walker = s.walker ∧ t.overlay = s.overlay ∧
      s.frameEffects t l s.counters ∧
      (∀ v, s.stageVerdict l = some v →
        t.verdicts.work = none ∧
        t.slots = (if l.current = true then
          s.slots.set l.slot.val { s.slot l.slot with verdict := v.1, verdictLink := none, refusal := v.2.2 }
          else s.slots) ∧
        (∀ a d be n, l.held = true → s.bus.held = some (.landing a d be n) →
          t.bus = { s.bus with held := none } ∧
          t.mem = s.mem.writeWord a (withVerdictByte d (verdictByte v.1 v.2.1 (s.staleFlag l.link))) be) ∧
        (l.held = false → t.bus = s.bus ∧ t.mem = s.mem)) ∧
      (s.stageVerdict l = none → t.slots = s.slots ∧ t.bus = s.bus ∧ t.mem = s.mem ∧
        t.verdicts.work = some { landing := l, phase := s.stepAwaited l })

/-- The hold limit runs out on a held landing: its write reaches memory with the LATE byte, counter 8 counts, LATE-VERDICT is
raised, and its computation goes on, held no more (R60, R23). It runs out on a held word-2 read: the fallback binding names
the verdict link's node or the captured receiver for unicast data, and the captured receiver with stamp 65535 for a notice;
the read is released with it, the sent link is recorded and counter 9 counts (R141, R142). That the fallback takes the verdict link
as the record held it at pass start is the model's reading of R141 (log 18), and that the limit may run out at any moment of a
hold is its choice (log 8). -/
def Obligations.HoldLimitExpiries : Prop :=
  (∀ (a : WordAddr) (d : Word) (be : Enables) (n : LinkName) (s : State), s.bus.held = some (.landing a d be n) →
    ∃ t, exec .landingHoldExpiry s = .next t ∧
      t.mem = s.mem.writeWord a (withVerdictByte d (verdictByte .late 0 (s.staleFlag n))) be ∧
      t.bus = { s.bus with held := none } ∧ t.counters = countedAt s.counters 7 ∧
      t.events = s.events.put 6 { s.events.at 6 with pending := true } ∧
      t.verdicts.waiting = s.verdicts.waiting.map (fun l => { l with held := false }) ∧
      (t.verdicts.work.map fun w => (w.landing.slot, w.phase)) =
        (s.verdicts.work.map fun w => (w.landing.slot, w.phase)) ∧
      (∀ l ∈ t.landings, l.held = false) ∧
      t.slots = s.slots ∧ t.links = s.links ∧ t.routes = s.routes) ∧
  ∀ (a : WordAddr) (p : Port) (b : Binding) (s : State), s.bus.held = some (.passStart a p) → s.binding p = some b →
    ∃ t b', exec .passStartHoldExpiry s = .next t ∧ t.binding p = some b' ∧ b'.how = .fallback ∧
      (b.treatment = .unicastData → b'.receiver = (match b.verdictLink with
        | some n => n.node
        | none => b.receiver)) ∧
      (b.treatment ≠ .unicastData → b'.receiver = b.receiver ∧ b'.stamp = some 65535) ∧
      t.bus = { s.bus with held := none, readData := s.identity.ownNode ++ b'.receiver } ∧
      t.slots = s.slots.set b.slot.val
        { s.slot b.slot with sentLink := s.sentLinkFor b.treatment b'.receiver p } ∧
      t.counters = countedAt s.counters 8 ∧ t.events = s.events ∧ t.routes = s.routes ∧ t.mem = s.mem

/-- A granted learning step. No link to learn over, a stale sequence or a full table ends in ABSORB, which releases a held write (the
last counted in counter 14 and raised); else the entry found or taken takes the newer sequence, age 0 and flag, and L's offer, and
the choosing step comes next, behind the request of the highest class that waits (R101 to R104, R41). No other entry, link or
wanted entry changes. That a withdrawn request gives storage back is log 16. -/
def Obligations.LearningStepResult : Prop :=
  ∀ (l : Landing) (m : PortMask) (perm : Bool) (s : State), s.granted .verdict = true →
    s.verdicts.work = some { landing := l, phase := .learning m perm } →
    let o := hdrOrigin l.words
    let q := hdrSequence l.words
    let absorbs := fun t : State => s.ends t l .absorb 0 none ∧ t.routes = s.routes
    let goesOn := fun (t : State) (i : LinkIx) =>
      (∃ first : Option Requester,
        t.verdicts = { s.verdicts with work := some { landing := l, phase := .choosing m perm i first } } ∧
        (∀ r, first = some r ↔ s.asks r ∧ ∀ r', s.asks r' → s.classOf r ≤ s.classOf r')) ∧
      t.slots = s.slots ∧ t.mem = s.mem ∧ t.bus = s.bus ∧ t.counters = s.counters ∧ t.events = s.events
    ∃ t, exec .noticeLearningStep s = .next t ∧ t.links = s.links ∧ t.wanted = s.wanted ∧ t.walker = s.walker ∧
      ((∀ i, s.findLink l.link = some i → (s.link i).state = .lost ∨ (s.link i).state = .purging) →
        absorbs t ∧ t.counters = countedAt s.counters 4 ∧ t.events = s.events) ∧
      ∀ i, s.findLink l.link = some i → heardState (s.link i).state →
        let new : Candidate := { link := i, stamp := hdrStamp l.words, heard := q }
        (∀ r, s.findRoute o = some r →
          (∀ q', (s.route r).latest = some q' → q ≠ q' → ¬(0 < (q - q').toNat ∧ (q - q').toNat < 32768) →
            absorbs t ∧ t.counters = countedAt s.counters 4 ∧ t.events = s.events) ∧
          ((s.route r).latest = none ∨
              (∃ q', (s.route r).latest = some q' ∧ (q = q' ∨ (0 < (q - q').toNat ∧ (q - q').toNat < 32768))) →
            goesOn t i ∧ (∀ j, j ≠ r → t.route j = s.route j) ∧
            t.route r =
              { s.route r with
                latest := some q, age := (t.route r).age, gateway := (t.route r).gateway
                candidates := (t.route r).candidates } ∧
            (if (s.route r).latest = some q then
                (t.route r).age = (s.route r).age ∧ (t.route r).gateway = (s.route r).gateway
              else (t.route r).age = 0 ∧ (t.route r).gateway = hdrGateway l.words) ∧
            s.offered (s.route r) new (t.route r).candidates)) ∧
        (s.findRoute o = none → ∀ r, s.takeable = some r →
          goesOn t i ∧ (∀ j, j ≠ r → t.route j = s.route j) ∧
          t.route r =
            { RouteEntry.empty with
              state := .orphan, dest := o, latest := some q, gateway := hdrGateway l.words, candidates := [new] }) ∧
        (s.findRoute o = none → s.takeable = none →
          absorbs t ∧ t.counters = countedAt (countedAt s.counters 13) 4 ∧
          t.events = s.events.put 8 { s.events.at 8 with pending := true })

/-- A granted choosing step: with no entry left for the origin it ends in ABSORB; else the entry is reselected, with its reports, and
the frame is REBROADCAST, with its sequence recorded, exactly when permission was given, the sequence is newer than the last
rebroadcast one and the primary is L; a held write is released with the verdict byte (R105, R50, R108, R117). While storage is with
the requester that goes first (R104) the step leaves the state as it is, which is the model's choice (logs 1 and 16). -/
def Obligations.ChoosingStepResult : Prop :=
  (∀ (s : State) (r : Requester), s.givenTo r → exec .noticeChoosingStep s = .next s) ∧
  ∀ (l : Landing) (m : PortMask) (perm : Bool) (i : LinkIx) (first : Option Requester) (s : State),
    s.granted .verdict = true → s.verdicts.work = some { landing := l, phase := .choosing m perm i first } →
    let q := hdrSequence l.words
    let absorbs := fun t : State => s.ends t l .absorb 0 none ∧ t.counters = countedAt s.counters 4
    ∃ t, exec .noticeChoosingStep s = .next t ∧ t.links = s.links ∧ t.walker = s.walker ∧
      s.onlyRaises t [.routeFound, .gatewayChange] ∧
      (s.findRoute (hdrOrigin l.words) = none →
        absorbs t ∧ t.routes = s.routes ∧ t.wanted = s.wanted ∧ t.events = s.events) ∧
      ∀ r, s.findRoute (hdrOrigin l.words) = some r →
        let e := s.selected (s.route r)
        let again := perm = true ∧
          (∀ q', e.lastRebroadcast = some q' → 0 < (q - q').toNat ∧ (q - q').toNat < 32768) ∧
          ∃ c, e.primary = some c ∧ c.link = i
        (∀ j, j ≠ r → t.route j = s.route j) ∧ s.selectionReports t (s.route r) e ∧
        (again → t.route r = { e with lastRebroadcast := some q } ∧ s.ends t l .rebroadcast m none ∧
          t.counters = countedAt s.counters 3) ∧
        (¬again → t.route r = e ∧ absorbs t)

/-- A granted forwarding lookup: a LIVE primary gives FORWARD over it, with its port in the mask, and changes no entry; a primary
that is not LIVE is first reselected, with the reports of the selection; with no primary the frame gets WAIT-ROUTE and its wanted
entry, new, one frame more, or WAITING again, or it gets DROP-NO-ROUTE, by its final node, its flow class and the wanted list. A
held write is released with the verdict byte (R53, R54, R110, R116, R108). -/
def Obligations.ForwardingLookupResult : Prop :=
  ∀ (l : Landing) (s : State), s.granted .verdict = true →
    s.verdicts.work = some { landing := l, phase := .lookup } →
    let d := hdrFinal l.words
    let forwards := fun (t : State) (i : LinkIx) =>
      s.ends t l .forward (1#3 <<< (s.link i).port.val) (some { node := (s.link i).node, port := (s.link i).port }) ∧
      t.counters = countedAt s.counters 1 ∧ t.wanted = s.wanted
    let waits := fun t : State =>
      let accepted := d ≠ 0 ∧ hdrFlowClass l.words ≤ 1 ∧ ((∃ w ∈ s.wanted, w.dest = d) ∨ s.wanted.length < 16)
      (accepted → s.ends t l .waitRoute 0 none ∧ t.counters = s.counters ∧ t.wanted = wantedAfterRequest s.wanted d) ∧
      (¬accepted → s.ends t l .dropNoRoute 0 none ∧ t.counters = countedAt s.counters 5 ∧ t.wanted = s.wanted)
    ∃ t, exec .forwardingLookup s = .next t ∧ t.links = s.links ∧ t.walker = s.walker ∧
      s.onlyRaises t [.gatewayChange] ∧
      (∀ r c, s.findRoute d = some r → (s.route r).primary = some c →
        ((s.link c.link).state = .live → forwards t c.link ∧ t.routes = s.routes ∧ t.events = s.events) ∧
        ((s.link c.link).state ≠ .live →
          t.route r = s.selected (s.route r) ∧ (∀ j, j ≠ r → t.route j = s.route j) ∧
          t.pendingOf .gatewayChange =
            (s.pendingOf .gatewayChange || ((s.route r).gateway &&
              decide (((s.route r).primary.map fun x => x.link) ≠
                (s.selected (s.route r)).primary.map fun x => x.link))) ∧
          (∀ c', (s.selected (s.route r)).primary = some c' → forwards t c'.link) ∧
          ((s.selected (s.route r)).primary = none → waits t))) ∧
      ((∀ r, s.findRoute d = some r → (s.route r).primary = none) →
        waits t ∧ t.routes = s.routes ∧ t.events = s.events)

/-- The table arbiter. A pass-start lookup, a command step or a walker step is granted exactly when it is asked for and either
storage has gone to its requester before a choosing step, or it has gone to none and no request of a higher class waits; a step of
the verdict work exactly when a computation waits, storage has gone to none, and no request of a higher class waits; and nothing
is granted while a hardware reset is on (R98, R99, R100, R104, R158). When the step of another requester has ended, the choosing step
is requested. That a row whose step is not granted, or is not the one its requester asks for, leaves the state as it is, and that a
request that has been withdrawn gives storage back, are the model's (logs 1 and 16). -/
def Obligations.ArbiterGrantsHighestClass : Prop :=
  (∀ (s : State) (r : Requester),
    let waits := fun q : Requester => s.asks q ∨ (q = .verdict ∧ s.verdicts.work ≠ none ∧ ∀ h, ¬s.givenTo h)
    s.granted r = true ↔ s.bus.resetLow = false ∧ s.bus.power = .ended ∧ waits r ∧
      (s.givenTo r ∨ ((∀ h, ¬s.givenTo h) ∧ ∀ q, waits q → s.classOf r ≤ s.classOf q))) ∧
  ∀ (s : State), ∀ x ∈ [(Instr.noticeLearningStep, Requester.verdict), (.noticeChoosingStep, .verdict),
      (.forwardingLookup, .verdict), (.passStartLookup, .overlay), (.pinRouteStep, .command), (.unpinStep, .command),
      (.readRouteStep, .command), (.readWantedStep, .command), (.releaseWantedStep, .command),
      (.walkerStep, .walker)],
    (s.granted x.2 = false → exec x.1 s = .next s) ∧
    (s.granted x.2 = true → ∃ t, exec x.1 s = .next t ∧
      (x.2 ≠ .verdict → ∀ l m p i first, s.verdicts.work = some { landing := l, phase := .choosing m p i first } →
        t.verdicts.work = some { landing := l, phase := .choosing m p i none } ∨ t = s))

/-! ### Transmit passes -/

/-- A word-2 read that begins a pass on a LANDED or COMPOSED slot, for a port with no other slot IN_SEND: the record is IN_SEND;
the binding has the treatment of Table 1 of chapter 8, the engine state, the own sequence of a hello or notice of this node, which
advances, and stamp 0 for the notice; with no lookup to make, word 2 is answered at once from the own node and the captured
receiver and the sent link is recorded; else the read is held for the lookup (R16, R22, R137 to R139, R142, R144, R145). The
binding keeps the record's verdict link as of the pass start (R140); that R141 uses it too is the model's reading (log 18). -/
def Obligations.TransmitPassStarts : Prop :=
  ∀ (a : ReadAccess) (p : Port) (k : SlotNo) (s : State), s.meshAt a.initiator a.addr p k 2 →
    (s.slot k).state = .landed ∨ (s.slot k).state = .composed →
    (∀ j, j ≠ k → (s.slot j).state = .inSend → (s.slot j).passPort ≠ some p) →
    let r := s.slot k
    ∀ tr, s.treatmentIs r tr →
    let receiver := loHalf (mergeBytes r.marks[0] (s.mem.readWord a.addr) r.words[0])
    let lookup := (tr = .unicastData ∧ s.engine.state = .forwarding) ∨ tr = .relayedNotice
    ∃ t, exec (.transmitPassStart a) s = .next t ∧ t.mem = s.mem ∧ t.counters = s.counters ∧
      t.events = s.events ∧ (∀ j, j ≠ k → t.slot j = s.slot j) ∧
      t.overlay.helloSeq = s.overlay.helloSeq + (if tr = .ownHello then 1 else 0) ∧
      t.overlay.noticeSeq = s.overlay.noticeSeq + (if tr = .ownNotice then 1 else 0) ∧
      (∃ b, t.binding p = some b ∧ b.slot = k ∧ b.treatment = tr ∧ b.receiver = receiver ∧
        b.ownSeq = (if tr = .ownHello then some (s.overlay.helloSeq + 1)
          else if tr = .ownNotice then some (s.overlay.noticeSeq + 1) else none) ∧
        b.stamp = (if tr = .ownNotice then some 0 else none) ∧ b.verdictLink = r.verdictLink ∧
        (b.forwarding = true ↔ s.engine.state = .forwarding) ∧
        (lookup → b.how = .awaiting) ∧ (¬lookup → b.how = .noLookup)) ∧
      (∀ q, q ≠ p → t.binding q = s.binding q) ∧
      t.slot k =
        { r with
          state := .inSend, passPort := some p, progress := 0, deadline := none
          sentLink := (t.slot k).sentLink } ∧
      (lookup → t.bus = { s.bus with held := some (.passStart a.addr p) } ∧ (t.slot k).sentLink = none) ∧
      (¬lookup → t.bus = { s.bus with readData := s.identity.ownNode ++ receiver } ∧
        (t.slot k).sentLink = s.sentLinkFor tr receiver p)

/-- In a state whose passes are owned, a word-2 read of a slot that is IN_SEND or awaits its outcome ends what was there: a
superseded pass counts in counter 15 and loses its binding, an expected outcome counts in counter 11; the port's pass on another
slot ends as though word 6 had been read and counts in counter 15; a VACANT or FILLING slot begins no pass (R16, R17, R148). -/
def Obligations.TransmitPassSupersedes : Prop :=
  ∀ (a : ReadAccess) (p : Port) (k : SlotNo) (s : State), s.passesOwned → s.meshAt a.initiator a.addr p k 2 →
    ((s.slot k).state = .vacant ∨ (s.slot k).state = .filling →
      exec (.transmitPassStart a) s =
        .next { s with bus := { s.bus with readData := s.mem.readWord a.addr } }) ∧
    ((s.slot k).state ≠ .vacant → (s.slot k).state ≠ .filling →
      ∃ t, exec (.transmitPassStart a) s = .next t ∧ (t.slot k).state = .inSend ∧ (t.slot k).passPort = some p ∧
        (t.slot k).deadline = none ∧
        (let ended := match (s.slot k).state with
          | .awaitingOutcome => countedAt s.counters 10
          | .inSend => countedAt s.counters 14
          | _ => s.counters
         (∀ q, (s.slot k).state = .inSend → (s.slot k).passPort = some q → q ≠ p → t.binding q = none) ∧
         ((∀ j, j ≠ k → (s.slot j).state = .inSend → (s.slot j).passPort ≠ some p) → t.counters = ended) ∧
         ∀ j, j ≠ k → (s.slot j).state = .inSend → (s.slot j).passPort = some p →
          t.counters = countedAt ended 14 ∧
          t.slot j =
            { s.slot j with
              state := .awaitingOutcome, progress := 0, deadline := some (s.now + s.settings.outcomeDeadline) }))

/-- A granted pass-start lookup: unicast data goes to the primary's node when it is LIVE on the port, else to the alternate's,
else, as a stale send counted in counter 10, to the verdict link's node or the captured receiver; a relayed notice carries
the primary total while the primary is LIVE, else 65535; the held read is released with own node and receiver, and the sent
link is recorded; no route entry changes (R111, R140, R142). -/
def Obligations.PassStartLookupBinds : Prop :=
  ∀ (p : Port) (b : Binding) (s : State), s.granted .overlay = true → s.binding p = some b → b.how = .awaiting →
    (∀ q, q ≠ p → s.awaitsLookup q = false) →
    let h := (s.slot b.slot).words
    let d := if b.treatment = .unicastData then hdrFinal h else hdrOrigin h
    let primary := (s.findRoute d).bind fun i => (s.route i).primary
    let alternate := (s.findRoute d).bind fun i => (s.route i).alternate
    let fallback := match b.verdictLink with
      | some n => n.node
      | none => b.receiver
    ∃ t b', exec .passStartLookup s = .next t ∧ t.binding p = some b' ∧ b'.how = .answered ∧ b'.slot = b.slot ∧
      t.bus = { s.bus with held := none, readData := s.identity.ownNode ++ b'.receiver } ∧
      t.slots = s.slots.set b.slot.val
        { s.slot b.slot with sentLink := s.sentLinkFor b.treatment b'.receiver p } ∧
      t.routes = s.routes ∧ t.links = s.links ∧ t.events = s.events ∧ t.mem = s.mem ∧
      (b.treatment = .unicastData →
        (∀ n, s.usableOn primary p n → b'.receiver = n ∧ t.counters = s.counters) ∧
        ((∀ n, ¬s.usableOn primary p n) → ∀ n, s.usableOn alternate p n →
          b'.receiver = n ∧ t.counters = s.counters) ∧
        ((∀ n, ¬s.usableOn primary p n) → (∀ n, ¬s.usableOn alternate p n) →
          b'.receiver = fallback ∧ t.counters = countedAt s.counters 9)) ∧
      (b.treatment ≠ .unicastData → b'.receiver = b.receiver ∧ t.counters = s.counters ∧
        (∀ c, primary = some c → (s.link c.link).state = .live → b'.stamp = some c.total) ∧
        ((∀ c, primary = some c → (s.link c.link).state ≠ .live) → b'.stamp = some 65535))

/-- The pass port's reads of words 3..5 add to the read progress; its read of word 6 ends the pass: AWAITING_OUTCOME with its
deadline, no binding. No read is held and nothing is counted. An uncaptured frame is supplied from its base bytes; a frame
that is captured whole is supplied with word 4 as captured and with the regenerated check of its own words in word 6 (R18,
R136, R145, R146, R148). -/
def Obligations.PassPortReadsWords : Prop :=
  ∀ (a : ReadAccess) (p : Port) (k : SlotNo) (w : HeaderIx) (b : Binding) (s : State), w ≠ 0 →
    s.meshAt a.initiator a.addr p k (w.val + 2) → (s.slot k).state = .inSend → (s.slot k).passPort = some p →
    s.binding p = some b →
    let r := s.slot k
    ∃ d : Word,
      (w ≠ 4 → exec (.transmitWordRead a) s =
        .next { s with
          bus := { s.bus with readData := d }
          slots := s.slots.set k.val { r with progress := r.progress ||| (1#4 <<< (w.val - 1)) } }) ∧
      (w = 4 → exec (.transmitWordRead a) s =
        .next { s with
          bus := { s.bus with readData := d }
          slots := s.slots.set k.val
            { r with
              state := .awaitingOutcome, progress := 0, deadline := some (s.now + s.settings.outcomeDeadline) }
          overlay := { s.overlay with bindings := s.overlay.bindings.set p.val none } }) ∧
      (b.treatment = .uncaptured → d = mergeBytes r.marks[w.val] (s.mem.readWord a.addr) r.words[w.val]) ∧
      (b.treatment ≠ .uncaptured → (∀ v : HeaderIx, r.marks[v.val] = 0xF#4) →
        let budget := if r.source = some .composed then hdrBudget r.words else hdrBudget r.words - 1
        let w3 := r.words[1].extractLsb' 24 8 ++ BitVec.ofNat 8 budget ++ b.ownSeq.getD (hdrSequence r.words)
        let w5 :=
          (if b.treatment = .ownNotice ∨ b.treatment = .relayedNotice then BitVec.ofNat 16 (b.stamp.getD 65535)
            else r.words[3].extractLsb' 16 16) ++
          (if b.treatment = .ownHello then BitVec.ofNat 16 (s.settings.sampleInterval / 10)
            else r.words[3].extractLsb' 0 16)
        d = match w.val with
          | 1 => w3
          | 2 => r.words[2]
          | 3 => w5
          | _ => r.words[4].extractLsb' 16 16 ++
            headerCheck s.identity.realmSeed w3 r.words[2] w5 r.words[4])

/-! ### Metric Unit, timers and walker -/

/-- An outcome job takes the head of the queue when no sweep runs or is requested: a heard link's q_tx moves an eighth of the
way, rounded up, toward the sample, tx_samples rises to at most 255 and the rate code is the outcome's; without such a link
the outcome is discarded; nothing else of the link changes (R70, R71, R87, R88). While a sweep runs or is requested the outcomes
wait in the queue (R70). That the row then leaves the state as it is, and with an empty queue too, is the model's choice (log 1). -/
def Obligations.OutcomeJobResult : Prop :=
  (∀ s : State, s.metric.sweep ≠ none ∨ s.metric.request = true ∨ s.outcomes = [] →
    exec .outcomeJob s = .next s) ∧
  ∀ (o : OutcomeEntry) (rest : List OutcomeEntry) (s : State), s.inReset = false → s.metric.sweep = none →
    s.metric.request = false → s.outcomes = o :: rest →
    ((∀ i, s.findLink o.link = some i → ¬heardState (s.link i).state) →
      exec .outcomeJob s = .next { s with outcomes := rest }) ∧
    ∀ i, s.findLink o.link = some i → heardState (s.link i).state →
      let q := (s.link i).qTx
      let x := if o.acked = true then (4096 + max o.attempts 1 / 2) / max o.attempts 1 else 0
      exec .outcomeJob s =
        .next { s with
          outcomes := rest
          links := s.links.set i.val
            { s.link i with
              qTx := if q ≤ x then q + (x - q + 7) / 8 else q - (q - x + 7) / 8
              txSamples := min 255 ((s.link i).txSamples + 1)
              rate := o.rate } }

/-- A requested sweep begins at entry 0, and its request is cleared; with no request, or with a sweep running, nothing begins
(R70, R86). After entry 31, skipped or visited, the sweep ends and a refresh is requested: it waits for the walk in progress, or a
walk begins. A visit that makes entry 31 LOST puts its index into the evict work first, and the walk that this begins leaves the
refresh for the next (R75, R121, R122). That a row whose occasion is absent leaves the state as it is, that a skipped entry takes a
step of its own, and that a walk begins within the sweep, are the model's (logs 1, 15 and 13). -/
def Obligations.SweepBeginsAndEnds : Prop :=
  (∀ s : State, s.inReset = false →
    (s.metric.request = true → s.metric.sweep = none →
      exec .sweepBegin s = .next { s with metric := { sweep := some 0, request := false } }) ∧
    (s.metric.request = false ∨ s.metric.sweep ≠ none → exec .sweepBegin s = .next s)) ∧
  ∀ s : State, s.inReset = false → s.metric.sweep = some 31 → s.engine.state ≠ .transparent →
    ∃ t, exec .sweepVisit s = .next t ∧ t.metric = { s.metric with sweep := none } ∧ t.routes = s.routes ∧
      t.counters = s.counters ∧
      (¬heardState (s.link 31).state → t.links = s.links ∧ t.events = s.events) ∧
      (let lost := heardState (s.link 31).state ∧ (t.link 31).state = .lost
       (¬lost → s.walker.walk ≠ none → t.walker = { s.walker with refresh := true }) ∧
       (¬lost → s.walker.walk = none → t.walker =
          { refresh := false, flush := false, evict := []
            walk := some { refresh := true, flush := s.walker.flush, evict := s.walker.evict, next := 0 } }) ∧
       (lost → s.walker.walk ≠ none → t.walker.walk = s.walker.walk ∧ t.walker.refresh = true ∧
          t.walker.flush = s.walker.flush ∧ ∀ j, j ∈ t.walker.evict ↔ j ∈ s.walker.evict ∨ j = 31) ∧
       (lost → s.walker.walk = none → t.walker.refresh = true ∧ t.walker.flush = false ∧ t.walker.evict = [] ∧
          ∃ w, t.walker.walk = some w ∧ w.refresh = s.walker.refresh ∧ w.flush = s.walker.flush ∧ w.next = 0 ∧
            ∀ j, j ∈ w.evict ↔ j ∈ s.walker.evict ∨ j = 31))

/-- A sweep visit of a heard entry, entry 31 included: the hello sample steps q_rx, the heard flag clears, the silent count restarts or
rises to at most 15, the cost follows from the combined delivery, and the state is decided by the first case of R74; LINK-UP
and LINK-DOWN follow entering and leaving LIVE, and no other event is raised; a LOST link joins the evict work, and a walk takes it
when none is in progress (R73, R74, R75, R64, R89, R121, R122). An entry that is FREE, LOST or PURGING is skipped. The skip as a
step of its own is the model's choice (log 15), and that the walk begins at the visit, not at the sweep's end, its reading of R122
(log 13). What the end of the sweep adds after entry 31 is in SweepBeginsAndEnds. -/
def Obligations.SweepVisitResult : Prop :=
  ∀ (i : LinkIx) (s : State), s.inReset = false → s.metric.sweep = some i →
    let next := if i.val < 31 then some (i + 1) else none
    (¬heardState (s.link i).state → i.val < 31 →
      exec .sweepVisit s = .next { s with metric := { s.metric with sweep := next } }) ∧
    (heardState (s.link i).state →
      let l := s.link i
      let cfg := s.settings
      let silent := if l.heard = true then 0 else min 15 (l.silent + 1)
      let qRx := toward l.qRx (if l.heard = true then 4096 else 0)
      let p := if 4 ≤ l.txSamples then l.qTx else qRx * qRx / 4096
      ∃ t, exec .sweepVisit s = .next t ∧ (∀ j, j ≠ i → t.link j = s.link j) ∧
        t.metric = { s.metric with sweep := next } ∧ t.routes = s.routes ∧ t.counters = s.counters ∧
        s.onlyRaises t [.linkUp, .linkDown] ∧
        t.link i =
          { l with
            heard := false, silent := silent, qRx := qRx, cost := costNumber p l.rate cfg.hopPenalty
            probation := (t.link i).probation, state := (t.link i).state } ∧
        (cfg.deadLimit ≤ silent → (t.link i).state = .lost ∧ (t.link i).probation = l.probation) ∧
        (silent < cfg.deadLimit →
          (l.state = .probation → (t.link i).probation = l.probation + 1 ∧
            (t.link i).state = (if l.probation + 1 < cfg.probation then .probation
              else if cfg.qualityFloor ≤ p then .live else .weak)) ∧
          (l.state = .live → (t.link i).probation = l.probation ∧
            (t.link i).state = if p < cfg.qualityFloor then .weak else .live) ∧
          (l.state = .weak → (t.link i).probation = l.probation ∧
            (t.link i).state = if cfg.qualityFloor + cfg.qualityFloor / 4 ≤ p then .live else .weak)) ∧
        t.pendingOf .linkUp = (s.pendingOf .linkUp || (l.state != .live && (t.link i).state == .live)) ∧
        t.pendingOf .linkDown = (s.pendingOf .linkDown || (l.state == .live && (t.link i).state != .live)) ∧
        ((t.link i).state = .lost → s.engine.state ≠ .transparent → s.walker.walk = none →
          t.walker.evict = [] ∧ ∃ w, t.walker.walk = some w ∧ w.next = 0 ∧
            ∀ j, j ∈ w.evict ↔ j ∈ s.walker.evict ∨ j = i) ∧
        ((t.link i).state = .lost → s.walker.walk ≠ none → t.walker.walk = s.walker.walk ∧
          ∀ j, j ∈ t.walker.evict ↔ j ∈ s.walker.evict ∨ j = i) ∧
        ((t.link i).state ≠ .lost → i.val < 31 → t.walker = s.walker))

/-- A sample expiry: the timer reloads from the expiry's time; a sweep is requested, or an overrun counted and raised; flood
entries age, and those at or past the lifetime leave from the head; WAITING wanted entries age and expire at the limit, with
WAIT-EXPIRED; in LEARNING the settle count rises and, at the setting, the engine is FORWARDING, with STATE-CHANGE (R72, R58,
R118, R152, R155, R157). The time base is at or past the expiry then (log 7). -/
def Obligations.SampleExpiryResult : Prop :=
  ∀ (at_ : Nat) (s : State), s.inReset = false → s.engine.nextExpiry = some at_ →
    let overrun := s.metric.sweep ≠ none ∨ s.metric.request = true
    ∃ t, exec .sampleExpiry s = .next t ∧ t.now = max s.now at_ ∧
      t.engine.nextExpiry = some (at_ + s.settings.sampleInterval) ∧
      (¬overrun → t.metric = { s.metric with request := true } ∧ t.counters = s.counters) ∧
      (overrun → t.metric = s.metric ∧ t.counters = countedAt s.counters 12 ∧ t.pendingOf .sweepOverrun = true) ∧
      (∃ gone, s.verdicts.flood.map (fun f => { f with age := f.age + 1 }) = gone ++ t.verdicts.flood ∧
        (∀ f ∈ gone, s.settings.floodLifetime ≤ f.age) ∧
        ∀ f ∈ t.verdicts.flood.head?, f.age < s.settings.floodLifetime) ∧
      t.wanted = s.wanted.map (fun w =>
        if w.state = .waiting then
          { w with
            age := w.age + 1
            state := if s.settings.waitLimit ≤ w.age + 1 then .expired else .waiting }
        else w) ∧
      ((∃ w ∈ s.wanted, w.state = .waiting ∧ s.settings.waitLimit ≤ w.age + 1) → t.pendingOf .waitExpired = true) ∧
      (s.engine.state ≠ .learning → t.engine.state = s.engine.state ∧ t.engine.settle = s.engine.settle) ∧
      (s.engine.state = .learning → t.engine.settle = s.engine.settle + 1 ∧
        (s.settings.settle ≤ s.engine.settle + 1 →
          t.engine.state = .forwarding ∧ t.pendingOf .stateChange = true) ∧
        (s.engine.settle + 1 < s.settings.settle → t.engine.state = .learning)) ∧
      t.links = s.links ∧ t.routes = s.routes ∧ t.slots = s.slots ∧ t.mem = s.mem ∧ t.bus = s.bus

/-- The purge window's expiry: every heard link of the set becomes PURGING, with LINK-DOWN when it was LIVE, and joins the evict
work; the others stay; the set empties and the window stops; a walk takes the work when none is in progress (R81, R122). The time base
is at or past the expiry then (log 7). -/
def Obligations.PurgeWindowExpires : Prop :=
  ∀ (at_ : Nat) (s : State), s.inReset = false → s.purge.window = some at_ → s.engine.state ≠ .transparent →
    let struck := fun i : LinkIx => heardState (s.link i).state ∧ ∃ n ∈ s.purge.set, s.findLink n = some i
    ∃ t, exec .purgeWindowExpiry s = .next t ∧ t.now = max s.now at_ ∧
      t.purge = { s.purge with set := [], window := none } ∧ t.routes = s.routes ∧ t.counters = s.counters ∧
      (∀ i, struck i → t.link i = { s.link i with state := .purging }) ∧
      (∀ i, ¬struck i → t.link i = s.link i) ∧
      (t.pendingOf .linkDown = true ↔
        s.pendingOf .linkDown = true ∨ ∃ i, struck i ∧ (s.link i).state = .live) ∧
      (s.walker.walk ≠ none → t.walker.walk = s.walker.walk ∧
        ∀ i, i ∈ t.walker.evict ↔ i ∈ s.walker.evict ∨ struck i) ∧
      (s.walker.walk = none → (∃ i, struck i) → ∃ w, t.walker.walk = some w ∧ w.next = 0 ∧
        ∀ i, i ∈ w.evict ↔ i ∈ s.walker.evict ∨ struck i)

/-- A walk's step on an entry: an EMPTY entry is left; else the candidates over evicted, LOST, PURGING and FREE links
leave, a flush empties an unpinned entry, a refresh ages the entry, and an unpinned entry at the route expiry or without
candidates is emptied; else the entry is reselected, with the reports of the selection. Emptying a flagged entry with a primary
raises GATEWAY-CHANGE. Every other entry stays, and before entry 255 the neighbour table and the purge set too (R123 to R127, R108,
R117). The step on entry 255, whatever its state, also completes the walk: the links of its evict set are FREE and out of the purge
set; PURGE-DONE is raised when one of them was PURGING; a flush completes FLUSH ROUTES; the next walk begins when work is pending
(R128, R129, R84, R122). -/
def Obligations.WalkStepsAndCompletion : Prop :=
  (∀ (w : Walk) (s : State), s.granted .walker = true → s.walker.walk = some w →
    let e := s.route w.next
    let kept := e.candidates.filter fun c =>
      decide (c.link ∉ w.evict ∧ (s.link c.link).state ≠ .lost ∧ (s.link c.link).state ≠ .purging ∧
        (s.link c.link).state ≠ .free)
    let aged := if w.refresh = true then min 255 (e.age + 1) else e.age
    let emptied := e.pin = none ∧
      (w.flush = true ∨ (w.refresh = true ∧ s.settings.routeExpiry ≤ aged) ∨ kept = [])
    ∃ t, exec .walkerStep s = .next t ∧
      (w.next.val < 255 → t.walker = { s.walker with walk := some { w with next := w.next + 1 } } ∧
        t.links = s.links ∧ t.purge = s.purge ∧ t.command = s.command) ∧
      (∀ r, r ≠ w.next → t.route r = s.route r) ∧ t.counters = s.counters ∧ t.mem = s.mem ∧ t.slots = s.slots ∧
      s.onlyRaises t ([.routeFound, .gatewayChange] ++ if w.next.val < 255 then [] else [.purgeDone, .commandDone]) ∧
      (let unreported := t.wanted = s.wanted ∧ t.pendingOf .routeFound = s.pendingOf .routeFound
       (e.state = .empty → t.routes = s.routes ∧ unreported ∧
        t.pendingOf .gatewayChange = s.pendingOf .gatewayChange) ∧
       (e.state ≠ .empty → emptied → t.route w.next = RouteEntry.empty ∧ unreported ∧
        t.pendingOf .gatewayChange = (s.pendingOf .gatewayChange || (e.primary.isSome && e.gateway))) ∧
       (e.state ≠ .empty → ¬emptied →
        let e' := { e with candidates := kept, age := aged }
        t.route w.next = s.selected e' ∧ s.selectionReports t e' (s.selected e')))) ∧
  ∀ (w : Walk) (s : State), s.granted .walker = true → s.walker.walk = some w → w.next = 255 →
    s.engine.state ≠ .transparent →
    ∃ t, exec .walkerStep s = .next t ∧
      (∀ i, i ∈ w.evict → t.link i = Link.free) ∧ (∀ i, i ∉ w.evict → t.link i = s.link i) ∧
      (w.evict.Nodup → t.purge.set = s.purge.set.filter fun n => decide (∀ i ∈ w.evict, s.linkName i ≠ n)) ∧
      t.pendingOf .purgeDone =
        (s.pendingOf .purgeDone || decide (∃ i ∈ w.evict, (s.link i).state = .purging)) ∧
      (w.flush = true → t.command = { s.command with running := false, result := .done } ∧
        t.pendingOf .commandDone = true) ∧
      (w.flush = false → t.command = s.command ∧ t.pendingOf .commandDone = s.pendingOf .commandDone) ∧
      (s.walker.refresh = false → s.walker.flush = false → s.walker.evict = [] →
        t.walker = { s.walker with walk := none }) ∧
      (s.walker.refresh = true ∨ s.walker.flush = true ∨ s.walker.evict ≠ [] →
        t.walker =
          { refresh := false, flush := false, evict := []
            walk := some
              { refresh := s.walker.refresh, flush := s.walker.flush, evict := s.walker.evict, next := 0 } })

/-! ### Lookups and selection -/

/-- What the table lookups find: a link by node and port is the non-FREE entry of both, none for node 0 or 65535 (R65, R26); a
destination is the entry in use for it (R97); the entry that a new destination takes is the EMPTY one of lowest index, failing that
the ORPHAN without a pin of greatest age, the lowest index among equals, failing that none (R102); the stale-link flag is set
unless the link is LIVE (R56); and the ports for a flood are those with a LIVE link (R55). In a state that holds a link or a
destination twice, which no run reaches, the entry of lowest index is found. -/
def Obligations.TableLookupsFindWhatTheySay : Prop :=
  ∀ s : State,
    (∀ n i, s.findLink n = some i ↔ s.holdsLink n i ∧ ∀ j, j < i → ¬s.holdsLink n j) ∧
    (∀ n, s.findLink n = none ↔ ∀ i, ¬s.holdsLink n i) ∧
    (let inUse := fun (d : Node) (i : RouteIx) => (s.route i).state ≠ .empty ∧ (s.route i).dest = d
     (∀ d i, s.findRoute d = some i ↔ inUse d i ∧ ∀ j, j < i → ¬inUse d j) ∧
     ∀ d, s.findRoute d = none ↔ ∀ i, ¬inUse d i) ∧
    (let orphan := fun i : RouteIx => (s.route i).state = .orphan ∧ (s.route i).pin = none
     (∀ i, s.takeable = some i ↔
      ((s.route i).state = .empty ∧ ∀ j, j < i → (s.route j).state ≠ .empty) ∨
      ((∀ j, (s.route j).state ≠ .empty) ∧ orphan i ∧
        ∀ j, orphan j → (s.route j).age < (s.route i).age ∨ ((s.route j).age = (s.route i).age ∧ i ≤ j))) ∧
     (s.takeable = none ↔ ∀ i, (s.route i).state ≠ .empty ∧ ¬orphan i)) ∧
    (∀ n, s.staleFlag n = false ↔ ∃ i, s.findLink n = some i ∧ (s.link i).state = .live) ∧
    ∀ p : Port, s.livePorts.getLsbD p.val = true ↔ ∃ i, (s.link i).state = .live ∧ (s.link i).port = p

/-- A candidate is eligible exactly when its link is LIVE, its total, at most 65535, is below 65535, and its heard sequence is at
most 2 behind the latest, across the wrap (R106). -/
def Obligations.EligibilityIsR106 : Prop :=
  (∀ (s : State) (q : Half) (c : Candidate),
    s.eligible (some q) c = true ↔
      (s.link c.link).state = .live ∧ min 65535 (c.stamp + (s.link c.link).cost) < 65535 ∧
      (q - c.heard).toNat ≤ 2) ∧
  withinLag 1 65535 = true ∧ withinLag 2 65535 = false

/-- Selection: a usable pin is the primary with its total; else the best eligible candidate, except that an eligible primary stays
unless it is beaten by more than its total times hysteresis over 16, truncated; the alternate is the best eligible candidate on
another port than the primary's; the entry is ACTIVE with a primary and ORPHAN without; nothing else of it changes (R107,
R97). -/
def Obligations.SelectionIsR107 : Prop :=
  ∀ (s : State) (e : RouteEntry),
    let total := fun c : Candidate => min 65535 (c.stamp + (s.link c.link).cost)
    let ok := fun c : Candidate => c ∈ e.candidates ∧ s.eligible e.latest c = true
    let pinned := fun c : Choice => ∃ p, e.pin = some p ∧ s.findLink p.link = some c.link ∧
      (s.link c.link).state = .live ∧ c.total = min 65535 (p.cost + (s.link c.link).cost) ∧ c.total < 65535
    let best := fun (b : Candidate) (from_ : Candidate → Prop) => from_ b ∧ ∀ c, from_ c → ¬s.ranksBefore c b
    let t := s.selected e
    t = { e with primary := t.primary, alternate := t.alternate, state := t.state } ∧
    (t.state = if t.primary = none then .orphan else .active) ∧
    (∀ c, pinned c → t.primary = some c) ∧
    ((∀ c, ¬pinned c) →
      ((∀ c, ¬ok c) → t.primary = none) ∧
      ((∀ c, ok c → ∀ x, e.primary = some x → c.link ≠ x.link) → (∃ c, ok c) →
        ∃ b, best b ok ∧ t.primary = some { link := b.link, total := total b }) ∧
      ∀ x cur b, e.primary = some x → ok cur → cur.link = x.link →
        (∀ c, ok c → c.link = x.link → c = cur) → best b ok → (∀ c, best c ok → total c = total b) →
        (total cur * s.settings.hysteresis / 16 < total cur - total b →
          ∃ b', best b' ok ∧ t.primary = some { link := b'.link, total := total b' }) ∧
        (¬total cur * s.settings.hysteresis / 16 < total cur - total b →
          t.primary = some { link := cur.link, total := total cur })) ∧
    (t.primary = none → t.alternate = none) ∧
    ∀ x, t.primary = some x →
      let other := fun c => ok c ∧ (s.link c.link).port ≠ (s.link x.link).port
      ((∀ c, ¬other c) → t.alternate = none) ∧
      ((∃ c, other c) → ∃ b, best b other ∧ t.alternate = some { link := b.link, total := total b })

/-- The learning step's sequence test on an entry in use: with no latest sequence, or one older than the notice's, the latest
becomes the notice's, the age 0 and the flag the notice's; an equal one leaves all three; an older notice, a difference of
exactly 32768 included, is stale and changes nothing (R103). -/
def Obligations.SequenceTestIsR103 : Prop :=
  ∀ (e : RouteEntry) (o : Offer),
    let taken := some { e with latest := some o.seq, age := 0, gateway := o.gateway }
    (e.latest = none → e.afterSequence o = taken) ∧
    ∀ q, e.latest = some q →
      (0 < (o.seq - q).toNat ∧ (o.seq - q).toNat ≤ 32767 → e.afterSequence o = taken) ∧
      (o.seq = q → e.afterSequence o = some e) ∧
      (32768 ≤ (o.seq - q).toNat → e.afterSequence o = none)

/-! ### Invariants -/

/-- Packet memory keeps its canonical form, which is the model's own (log 9), at every step. -/
def Obligations.MemoryStaysCanonical : Prop :=
  ∀ s s' : State, Memory.wf s.mem → step s = .next s' → Memory.wf s'.mem

/-- Every list stays within its capacity at every step, and the evict sets hold each link index at most once (R42, R57, R69, R79,
R83, R96, R115, R120). -/
def Obligations.ListsStayWithinCapacity : Prop :=
  ∀ s s' : State, s.withinCapacity → step s = .next s' → s'.withinCapacity

/-- Every number stays in its range at every step: link fields, route ages, totals, stamps and pin costs, wanted entries, flood
ages, outcome attempts, region counts, counters, the reset and settle counts and the settings (R4, R57, R63, R69, R96, R115, R152,
R160, R174, Table 2 of chapter 10). -/
def Obligations.NumbersStayInRange : Prop :=
  ∀ s s' : State, s.inRange → step s = .next s' → s'.inRange

/-- No table or list holds a thing twice, at every step: links, candidates, wanted destinations, flood pairs, the purge set, the bar
list and mesh ports; and the slot regions fit (R3, R4, R57, R65, R79, R83, R104, R115). -/
def Obligations.TablesHoldNoDuplicates : Prop :=
  ∀ s s' : State, s.noDuplicates → step s = .next s' → s'.noDuplicates

/-- In TRANSPARENT nothing runs, at every step (R149, R153). -/
def Obligations.TransparentStaysQuiet : Prop :=
  ∀ s s' : State, s.transparentIsQuiet → step s = .next s' → s'.transparentIsQuiet

/-- No route entry names a FREE link, at every step (R128). -/
def Obligations.RoutesNeverNameFreeLinks : Prop :=
  ∀ s s' : State, s.routesNameLinks → step s = .next s' → s'.routesNameLinks

/-- At most one route entry is in use for a destination, none for 0, 65535 or the own node, and an entry is ACTIVE exactly with a
primary, at every step from a state in which, in TRANSPARENT, nothing runs (R97). -/
def Obligations.DestinationsStayUnique : Prop :=
  ∀ s s' : State, s.transparentIsQuiet → s.destinationsUnique → step s = .next s' → s'.destinationsUnique

/-- Slot records, passes and bindings stay consistent at every step from a state in which, in TRANSPARENT, nothing runs (R7, R10,
R17, R135, R148). -/
def Obligations.PassesStayOwned : Prop :=
  ∀ s s' : State, s.transparentIsQuiet → s.passesOwned → step s = .next s' → s'.passesOwned

/-- The held access keeps exactly one owner at every step (R22, R59, R139). -/
def Obligations.HeldAccessStaysOwned : Prop :=
  ∀ s s' : State, s.heldIsOwned → step s = .next s' → s'.heldIsOwned

/-- Every invariant holds after a power-on reset. -/
def Obligations.InvariantsHoldAtReset : Prop :=
  let s := State.reset
  Memory.wf s.mem ∧ s.withinCapacity ∧ s.inRange ∧ s.noDuplicates ∧ s.transparentIsQuiet ∧ s.routesNameLinks ∧
  s.destinationsUnique ∧ s.passesOwned ∧ s.heldIsOwned
end

