-- ==== Sys2Proof/Laws/State.lean ====
section
/-! SUPPORT. One lemma per field of State and elementary update: what the update leaves in the field, true by rfl. -/

namespace Sys2Proof.Machine

/-! ### writeMem -/

@[simp] theorem State.writeMem_pending (s : State) (a : WordAddr) (d : Word) (be : Enables) : (s.writeMem a d be).pending = s.pending := rfl
@[simp] theorem State.writeMem_now (s : State) (a : WordAddr) (d : Word) (be : Enables) : (s.writeMem a d be).now = s.now := rfl
@[simp] theorem State.writeMem_mem (s : State) (a : WordAddr) (d : Word) (be : Enables) :
    (s.writeMem a d be).mem = s.mem.writeWord a d be := rfl
@[simp] theorem State.writeMem_bus (s : State) (a : WordAddr) (d : Word) (be : Enables) : (s.writeMem a d be).bus = s.bus := rfl
@[simp] theorem State.writeMem_slots (s : State) (a : WordAddr) (d : Word) (be : Enables) : (s.writeMem a d be).slots = s.slots := rfl
@[simp] theorem State.writeMem_verdicts (s : State) (a : WordAddr) (d : Word) (be : Enables) : (s.writeMem a d be).verdicts = s.verdicts := rfl
@[simp] theorem State.writeMem_links (s : State) (a : WordAddr) (d : Word) (be : Enables) : (s.writeMem a d be).links = s.links := rfl
@[simp] theorem State.writeMem_outcomes (s : State) (a : WordAddr) (d : Word) (be : Enables) : (s.writeMem a d be).outcomes = s.outcomes := rfl
@[simp] theorem State.writeMem_purge (s : State) (a : WordAddr) (d : Word) (be : Enables) : (s.writeMem a d be).purge = s.purge := rfl
@[simp] theorem State.writeMem_metric (s : State) (a : WordAddr) (d : Word) (be : Enables) : (s.writeMem a d be).metric = s.metric := rfl
@[simp] theorem State.writeMem_routes (s : State) (a : WordAddr) (d : Word) (be : Enables) : (s.writeMem a d be).routes = s.routes := rfl
@[simp] theorem State.writeMem_wanted (s : State) (a : WordAddr) (d : Word) (be : Enables) : (s.writeMem a d be).wanted = s.wanted := rfl
@[simp] theorem State.writeMem_walker (s : State) (a : WordAddr) (d : Word) (be : Enables) : (s.writeMem a d be).walker = s.walker := rfl
@[simp] theorem State.writeMem_overlay (s : State) (a : WordAddr) (d : Word) (be : Enables) : (s.writeMem a d be).overlay = s.overlay := rfl
@[simp] theorem State.writeMem_identity (s : State) (a : WordAddr) (d : Word) (be : Enables) : (s.writeMem a d be).identity = s.identity := rfl
@[simp] theorem State.writeMem_engine (s : State) (a : WordAddr) (d : Word) (be : Enables) : (s.writeMem a d be).engine = s.engine := rfl
@[simp] theorem State.writeMem_settings (s : State) (a : WordAddr) (d : Word) (be : Enables) : (s.writeMem a d be).settings = s.settings := rfl
@[simp] theorem State.writeMem_mailbox (s : State) (a : WordAddr) (d : Word) (be : Enables) : (s.writeMem a d be).mailbox = s.mailbox := rfl
@[simp] theorem State.writeMem_command (s : State) (a : WordAddr) (d : Word) (be : Enables) : (s.writeMem a d be).command = s.command := rfl
@[simp] theorem State.writeMem_refusal (s : State) (a : WordAddr) (d : Word) (be : Enables) : (s.writeMem a d be).refusal = s.refusal := rfl
@[simp] theorem State.writeMem_snapshot (s : State) (a : WordAddr) (d : Word) (be : Enables) : (s.writeMem a d be).snapshot = s.snapshot := rfl
@[simp] theorem State.writeMem_counters (s : State) (a : WordAddr) (d : Word) (be : Enables) : (s.writeMem a d be).counters = s.counters := rfl
@[simp] theorem State.writeMem_events (s : State) (a : WordAddr) (d : Word) (be : Enables) : (s.writeMem a d be).events = s.events := rfl
@[simp] theorem State.writeMem_cause (s : State) (a : WordAddr) (d : Word) (be : Enables) : (s.writeMem a d be).cause = s.cause := rfl

/-! ### answer -/

@[simp] theorem State.answer_pending (s : State) (w : Word) : (s.answer w).pending = s.pending := rfl
@[simp] theorem State.answer_now (s : State) (w : Word) : (s.answer w).now = s.now := rfl
@[simp] theorem State.answer_mem (s : State) (w : Word) : (s.answer w).mem = s.mem := rfl
@[simp] theorem State.answer_bus (s : State) (w : Word) :
    (s.answer w).bus = { s.bus with readData := w } := rfl
@[simp] theorem State.answer_slots (s : State) (w : Word) : (s.answer w).slots = s.slots := rfl
@[simp] theorem State.answer_verdicts (s : State) (w : Word) : (s.answer w).verdicts = s.verdicts := rfl
@[simp] theorem State.answer_links (s : State) (w : Word) : (s.answer w).links = s.links := rfl
@[simp] theorem State.answer_outcomes (s : State) (w : Word) : (s.answer w).outcomes = s.outcomes := rfl
@[simp] theorem State.answer_purge (s : State) (w : Word) : (s.answer w).purge = s.purge := rfl
@[simp] theorem State.answer_metric (s : State) (w : Word) : (s.answer w).metric = s.metric := rfl
@[simp] theorem State.answer_routes (s : State) (w : Word) : (s.answer w).routes = s.routes := rfl
@[simp] theorem State.answer_wanted (s : State) (w : Word) : (s.answer w).wanted = s.wanted := rfl
@[simp] theorem State.answer_walker (s : State) (w : Word) : (s.answer w).walker = s.walker := rfl
@[simp] theorem State.answer_overlay (s : State) (w : Word) : (s.answer w).overlay = s.overlay := rfl
@[simp] theorem State.answer_identity (s : State) (w : Word) : (s.answer w).identity = s.identity := rfl
@[simp] theorem State.answer_engine (s : State) (w : Word) : (s.answer w).engine = s.engine := rfl
@[simp] theorem State.answer_settings (s : State) (w : Word) : (s.answer w).settings = s.settings := rfl
@[simp] theorem State.answer_mailbox (s : State) (w : Word) : (s.answer w).mailbox = s.mailbox := rfl
@[simp] theorem State.answer_command (s : State) (w : Word) : (s.answer w).command = s.command := rfl
@[simp] theorem State.answer_refusal (s : State) (w : Word) : (s.answer w).refusal = s.refusal := rfl
@[simp] theorem State.answer_snapshot (s : State) (w : Word) : (s.answer w).snapshot = s.snapshot := rfl
@[simp] theorem State.answer_counters (s : State) (w : Word) : (s.answer w).counters = s.counters := rfl
@[simp] theorem State.answer_events (s : State) (w : Word) : (s.answer w).events = s.events := rfl
@[simp] theorem State.answer_cause (s : State) (w : Word) : (s.answer w).cause = s.cause := rfl

/-! ### setSlot -/

@[simp] theorem State.setSlot_pending (s : State) (k : SlotNo) (r : SlotRecord) : (s.setSlot k r).pending = s.pending := rfl
@[simp] theorem State.setSlot_now (s : State) (k : SlotNo) (r : SlotRecord) : (s.setSlot k r).now = s.now := rfl
@[simp] theorem State.setSlot_mem (s : State) (k : SlotNo) (r : SlotRecord) : (s.setSlot k r).mem = s.mem := rfl
@[simp] theorem State.setSlot_bus (s : State) (k : SlotNo) (r : SlotRecord) : (s.setSlot k r).bus = s.bus := rfl
@[simp] theorem State.setSlot_slots (s : State) (k : SlotNo) (r : SlotRecord) :
    (s.setSlot k r).slots = s.slots.set k.val r := rfl
@[simp] theorem State.setSlot_verdicts (s : State) (k : SlotNo) (r : SlotRecord) : (s.setSlot k r).verdicts = s.verdicts := rfl
@[simp] theorem State.setSlot_links (s : State) (k : SlotNo) (r : SlotRecord) : (s.setSlot k r).links = s.links := rfl
@[simp] theorem State.setSlot_outcomes (s : State) (k : SlotNo) (r : SlotRecord) : (s.setSlot k r).outcomes = s.outcomes := rfl
@[simp] theorem State.setSlot_purge (s : State) (k : SlotNo) (r : SlotRecord) : (s.setSlot k r).purge = s.purge := rfl
@[simp] theorem State.setSlot_metric (s : State) (k : SlotNo) (r : SlotRecord) : (s.setSlot k r).metric = s.metric := rfl
@[simp] theorem State.setSlot_routes (s : State) (k : SlotNo) (r : SlotRecord) : (s.setSlot k r).routes = s.routes := rfl
@[simp] theorem State.setSlot_wanted (s : State) (k : SlotNo) (r : SlotRecord) : (s.setSlot k r).wanted = s.wanted := rfl
@[simp] theorem State.setSlot_walker (s : State) (k : SlotNo) (r : SlotRecord) : (s.setSlot k r).walker = s.walker := rfl
@[simp] theorem State.setSlot_overlay (s : State) (k : SlotNo) (r : SlotRecord) : (s.setSlot k r).overlay = s.overlay := rfl
@[simp] theorem State.setSlot_identity (s : State) (k : SlotNo) (r : SlotRecord) : (s.setSlot k r).identity = s.identity := rfl
@[simp] theorem State.setSlot_engine (s : State) (k : SlotNo) (r : SlotRecord) : (s.setSlot k r).engine = s.engine := rfl
@[simp] theorem State.setSlot_settings (s : State) (k : SlotNo) (r : SlotRecord) : (s.setSlot k r).settings = s.settings := rfl
@[simp] theorem State.setSlot_mailbox (s : State) (k : SlotNo) (r : SlotRecord) : (s.setSlot k r).mailbox = s.mailbox := rfl
@[simp] theorem State.setSlot_command (s : State) (k : SlotNo) (r : SlotRecord) : (s.setSlot k r).command = s.command := rfl
@[simp] theorem State.setSlot_refusal (s : State) (k : SlotNo) (r : SlotRecord) : (s.setSlot k r).refusal = s.refusal := rfl
@[simp] theorem State.setSlot_snapshot (s : State) (k : SlotNo) (r : SlotRecord) : (s.setSlot k r).snapshot = s.snapshot := rfl
@[simp] theorem State.setSlot_counters (s : State) (k : SlotNo) (r : SlotRecord) : (s.setSlot k r).counters = s.counters := rfl
@[simp] theorem State.setSlot_events (s : State) (k : SlotNo) (r : SlotRecord) : (s.setSlot k r).events = s.events := rfl
@[simp] theorem State.setSlot_cause (s : State) (k : SlotNo) (r : SlotRecord) : (s.setSlot k r).cause = s.cause := rfl

/-! ### clearSlots -/

@[simp] theorem State.clearSlots_pending (s : State) : (s.clearSlots).pending = s.pending := rfl
@[simp] theorem State.clearSlots_now (s : State) : (s.clearSlots).now = s.now := rfl
@[simp] theorem State.clearSlots_mem (s : State) : (s.clearSlots).mem = s.mem := rfl
@[simp] theorem State.clearSlots_bus (s : State) : (s.clearSlots).bus = s.bus := rfl
@[simp] theorem State.clearSlots_slots (s : State) :
    (s.clearSlots).slots = Vector.replicate 512 SlotRecord.vacant := rfl
@[simp] theorem State.clearSlots_verdicts (s : State) : (s.clearSlots).verdicts = s.verdicts := rfl
@[simp] theorem State.clearSlots_links (s : State) : (s.clearSlots).links = s.links := rfl
@[simp] theorem State.clearSlots_outcomes (s : State) : (s.clearSlots).outcomes = s.outcomes := rfl
@[simp] theorem State.clearSlots_purge (s : State) : (s.clearSlots).purge = s.purge := rfl
@[simp] theorem State.clearSlots_metric (s : State) : (s.clearSlots).metric = s.metric := rfl
@[simp] theorem State.clearSlots_routes (s : State) : (s.clearSlots).routes = s.routes := rfl
@[simp] theorem State.clearSlots_wanted (s : State) : (s.clearSlots).wanted = s.wanted := rfl
@[simp] theorem State.clearSlots_walker (s : State) : (s.clearSlots).walker = s.walker := rfl
@[simp] theorem State.clearSlots_overlay (s : State) : (s.clearSlots).overlay = s.overlay := rfl
@[simp] theorem State.clearSlots_identity (s : State) : (s.clearSlots).identity = s.identity := rfl
@[simp] theorem State.clearSlots_engine (s : State) : (s.clearSlots).engine = s.engine := rfl
@[simp] theorem State.clearSlots_settings (s : State) : (s.clearSlots).settings = s.settings := rfl
@[simp] theorem State.clearSlots_mailbox (s : State) : (s.clearSlots).mailbox = s.mailbox := rfl
@[simp] theorem State.clearSlots_command (s : State) : (s.clearSlots).command = s.command := rfl
@[simp] theorem State.clearSlots_refusal (s : State) : (s.clearSlots).refusal = s.refusal := rfl
@[simp] theorem State.clearSlots_snapshot (s : State) : (s.clearSlots).snapshot = s.snapshot := rfl
@[simp] theorem State.clearSlots_counters (s : State) : (s.clearSlots).counters = s.counters := rfl
@[simp] theorem State.clearSlots_events (s : State) : (s.clearSlots).events = s.events := rfl
@[simp] theorem State.clearSlots_cause (s : State) : (s.clearSlots).cause = s.cause := rfl

/-! ### setLink -/

@[simp] theorem State.setLink_pending (s : State) (i : LinkIx) (l : Link) : (s.setLink i l).pending = s.pending := rfl
@[simp] theorem State.setLink_now (s : State) (i : LinkIx) (l : Link) : (s.setLink i l).now = s.now := rfl
@[simp] theorem State.setLink_mem (s : State) (i : LinkIx) (l : Link) : (s.setLink i l).mem = s.mem := rfl
@[simp] theorem State.setLink_bus (s : State) (i : LinkIx) (l : Link) : (s.setLink i l).bus = s.bus := rfl
@[simp] theorem State.setLink_slots (s : State) (i : LinkIx) (l : Link) : (s.setLink i l).slots = s.slots := rfl
@[simp] theorem State.setLink_verdicts (s : State) (i : LinkIx) (l : Link) : (s.setLink i l).verdicts = s.verdicts := rfl
@[simp] theorem State.setLink_links (s : State) (i : LinkIx) (l : Link) :
    (s.setLink i l).links = s.links.set i.val l := rfl
@[simp] theorem State.setLink_outcomes (s : State) (i : LinkIx) (l : Link) : (s.setLink i l).outcomes = s.outcomes := rfl
@[simp] theorem State.setLink_purge (s : State) (i : LinkIx) (l : Link) : (s.setLink i l).purge = s.purge := rfl
@[simp] theorem State.setLink_metric (s : State) (i : LinkIx) (l : Link) : (s.setLink i l).metric = s.metric := rfl
@[simp] theorem State.setLink_routes (s : State) (i : LinkIx) (l : Link) : (s.setLink i l).routes = s.routes := rfl
@[simp] theorem State.setLink_wanted (s : State) (i : LinkIx) (l : Link) : (s.setLink i l).wanted = s.wanted := rfl
@[simp] theorem State.setLink_walker (s : State) (i : LinkIx) (l : Link) : (s.setLink i l).walker = s.walker := rfl
@[simp] theorem State.setLink_overlay (s : State) (i : LinkIx) (l : Link) : (s.setLink i l).overlay = s.overlay := rfl
@[simp] theorem State.setLink_identity (s : State) (i : LinkIx) (l : Link) : (s.setLink i l).identity = s.identity := rfl
@[simp] theorem State.setLink_engine (s : State) (i : LinkIx) (l : Link) : (s.setLink i l).engine = s.engine := rfl
@[simp] theorem State.setLink_settings (s : State) (i : LinkIx) (l : Link) : (s.setLink i l).settings = s.settings := rfl
@[simp] theorem State.setLink_mailbox (s : State) (i : LinkIx) (l : Link) : (s.setLink i l).mailbox = s.mailbox := rfl
@[simp] theorem State.setLink_command (s : State) (i : LinkIx) (l : Link) : (s.setLink i l).command = s.command := rfl
@[simp] theorem State.setLink_refusal (s : State) (i : LinkIx) (l : Link) : (s.setLink i l).refusal = s.refusal := rfl
@[simp] theorem State.setLink_snapshot (s : State) (i : LinkIx) (l : Link) : (s.setLink i l).snapshot = s.snapshot := rfl
@[simp] theorem State.setLink_counters (s : State) (i : LinkIx) (l : Link) : (s.setLink i l).counters = s.counters := rfl
@[simp] theorem State.setLink_events (s : State) (i : LinkIx) (l : Link) : (s.setLink i l).events = s.events := rfl
@[simp] theorem State.setLink_cause (s : State) (i : LinkIx) (l : Link) : (s.setLink i l).cause = s.cause := rfl

/-! ### setRoute -/

@[simp] theorem State.setRoute_pending (s : State) (i : RouteIx) (e : RouteEntry) : (s.setRoute i e).pending = s.pending := rfl
@[simp] theorem State.setRoute_now (s : State) (i : RouteIx) (e : RouteEntry) : (s.setRoute i e).now = s.now := rfl
@[simp] theorem State.setRoute_mem (s : State) (i : RouteIx) (e : RouteEntry) : (s.setRoute i e).mem = s.mem := rfl
@[simp] theorem State.setRoute_bus (s : State) (i : RouteIx) (e : RouteEntry) : (s.setRoute i e).bus = s.bus := rfl
@[simp] theorem State.setRoute_slots (s : State) (i : RouteIx) (e : RouteEntry) : (s.setRoute i e).slots = s.slots := rfl
@[simp] theorem State.setRoute_verdicts (s : State) (i : RouteIx) (e : RouteEntry) : (s.setRoute i e).verdicts = s.verdicts := rfl
@[simp] theorem State.setRoute_links (s : State) (i : RouteIx) (e : RouteEntry) : (s.setRoute i e).links = s.links := rfl
@[simp] theorem State.setRoute_outcomes (s : State) (i : RouteIx) (e : RouteEntry) : (s.setRoute i e).outcomes = s.outcomes := rfl
@[simp] theorem State.setRoute_purge (s : State) (i : RouteIx) (e : RouteEntry) : (s.setRoute i e).purge = s.purge := rfl
@[simp] theorem State.setRoute_metric (s : State) (i : RouteIx) (e : RouteEntry) : (s.setRoute i e).metric = s.metric := rfl
@[simp] theorem State.setRoute_routes (s : State) (i : RouteIx) (e : RouteEntry) :
    (s.setRoute i e).routes = s.routes.set i.val e := rfl
@[simp] theorem State.setRoute_wanted (s : State) (i : RouteIx) (e : RouteEntry) : (s.setRoute i e).wanted = s.wanted := rfl
@[simp] theorem State.setRoute_walker (s : State) (i : RouteIx) (e : RouteEntry) : (s.setRoute i e).walker = s.walker := rfl
@[simp] theorem State.setRoute_overlay (s : State) (i : RouteIx) (e : RouteEntry) : (s.setRoute i e).overlay = s.overlay := rfl
@[simp] theorem State.setRoute_identity (s : State) (i : RouteIx) (e : RouteEntry) : (s.setRoute i e).identity = s.identity := rfl
@[simp] theorem State.setRoute_engine (s : State) (i : RouteIx) (e : RouteEntry) : (s.setRoute i e).engine = s.engine := rfl
@[simp] theorem State.setRoute_settings (s : State) (i : RouteIx) (e : RouteEntry) : (s.setRoute i e).settings = s.settings := rfl
@[simp] theorem State.setRoute_mailbox (s : State) (i : RouteIx) (e : RouteEntry) : (s.setRoute i e).mailbox = s.mailbox := rfl
@[simp] theorem State.setRoute_command (s : State) (i : RouteIx) (e : RouteEntry) : (s.setRoute i e).command = s.command := rfl
@[simp] theorem State.setRoute_refusal (s : State) (i : RouteIx) (e : RouteEntry) : (s.setRoute i e).refusal = s.refusal := rfl
@[simp] theorem State.setRoute_snapshot (s : State) (i : RouteIx) (e : RouteEntry) : (s.setRoute i e).snapshot = s.snapshot := rfl
@[simp] theorem State.setRoute_counters (s : State) (i : RouteIx) (e : RouteEntry) : (s.setRoute i e).counters = s.counters := rfl
@[simp] theorem State.setRoute_events (s : State) (i : RouteIx) (e : RouteEntry) : (s.setRoute i e).events = s.events := rfl
@[simp] theorem State.setRoute_cause (s : State) (i : RouteIx) (e : RouteEntry) : (s.setRoute i e).cause = s.cause := rfl

/-! ### count -/

@[simp] theorem State.count_pending (s : State) (c : Counter) : (s.count c).pending = s.pending := rfl
@[simp] theorem State.count_now (s : State) (c : Counter) : (s.count c).now = s.now := rfl
@[simp] theorem State.count_mem (s : State) (c : Counter) : (s.count c).mem = s.mem := rfl
@[simp] theorem State.count_bus (s : State) (c : Counter) : (s.count c).bus = s.bus := rfl
@[simp] theorem State.count_slots (s : State) (c : Counter) : (s.count c).slots = s.slots := rfl
@[simp] theorem State.count_verdicts (s : State) (c : Counter) : (s.count c).verdicts = s.verdicts := rfl
@[simp] theorem State.count_links (s : State) (c : Counter) : (s.count c).links = s.links := rfl
@[simp] theorem State.count_outcomes (s : State) (c : Counter) : (s.count c).outcomes = s.outcomes := rfl
@[simp] theorem State.count_purge (s : State) (c : Counter) : (s.count c).purge = s.purge := rfl
@[simp] theorem State.count_metric (s : State) (c : Counter) : (s.count c).metric = s.metric := rfl
@[simp] theorem State.count_routes (s : State) (c : Counter) : (s.count c).routes = s.routes := rfl
@[simp] theorem State.count_wanted (s : State) (c : Counter) : (s.count c).wanted = s.wanted := rfl
@[simp] theorem State.count_walker (s : State) (c : Counter) : (s.count c).walker = s.walker := rfl
@[simp] theorem State.count_overlay (s : State) (c : Counter) : (s.count c).overlay = s.overlay := rfl
@[simp] theorem State.count_identity (s : State) (c : Counter) : (s.count c).identity = s.identity := rfl
@[simp] theorem State.count_engine (s : State) (c : Counter) : (s.count c).engine = s.engine := rfl
@[simp] theorem State.count_settings (s : State) (c : Counter) : (s.count c).settings = s.settings := rfl
@[simp] theorem State.count_mailbox (s : State) (c : Counter) : (s.count c).mailbox = s.mailbox := rfl
@[simp] theorem State.count_command (s : State) (c : Counter) : (s.count c).command = s.command := rfl
@[simp] theorem State.count_refusal (s : State) (c : Counter) : (s.count c).refusal = s.refusal := rfl
@[simp] theorem State.count_snapshot (s : State) (c : Counter) : (s.count c).snapshot = s.snapshot := rfl
@[simp] theorem State.count_counters (s : State) (c : Counter) :
    (s.count c).counters = s.counters.set c.ix.val (min 65535 (s.counters[c.ix.val] + 1)) := rfl
@[simp] theorem State.count_events (s : State) (c : Counter) : (s.count c).events = s.events := rfl
@[simp] theorem State.count_cause (s : State) (c : Counter) : (s.count c).cause = s.cause := rfl

/-! ### raise -/

@[simp] theorem State.raise_pending (s : State) (e : EventSource) : (s.raise e).pending = s.pending := rfl
@[simp] theorem State.raise_now (s : State) (e : EventSource) : (s.raise e).now = s.now := rfl
@[simp] theorem State.raise_mem (s : State) (e : EventSource) : (s.raise e).mem = s.mem := rfl
@[simp] theorem State.raise_bus (s : State) (e : EventSource) : (s.raise e).bus = s.bus := rfl
@[simp] theorem State.raise_slots (s : State) (e : EventSource) : (s.raise e).slots = s.slots := rfl
@[simp] theorem State.raise_verdicts (s : State) (e : EventSource) : (s.raise e).verdicts = s.verdicts := rfl
@[simp] theorem State.raise_links (s : State) (e : EventSource) : (s.raise e).links = s.links := rfl
@[simp] theorem State.raise_outcomes (s : State) (e : EventSource) : (s.raise e).outcomes = s.outcomes := rfl
@[simp] theorem State.raise_purge (s : State) (e : EventSource) : (s.raise e).purge = s.purge := rfl
@[simp] theorem State.raise_metric (s : State) (e : EventSource) : (s.raise e).metric = s.metric := rfl
@[simp] theorem State.raise_routes (s : State) (e : EventSource) : (s.raise e).routes = s.routes := rfl
@[simp] theorem State.raise_wanted (s : State) (e : EventSource) : (s.raise e).wanted = s.wanted := rfl
@[simp] theorem State.raise_walker (s : State) (e : EventSource) : (s.raise e).walker = s.walker := rfl
@[simp] theorem State.raise_overlay (s : State) (e : EventSource) : (s.raise e).overlay = s.overlay := rfl
@[simp] theorem State.raise_identity (s : State) (e : EventSource) : (s.raise e).identity = s.identity := rfl
@[simp] theorem State.raise_engine (s : State) (e : EventSource) : (s.raise e).engine = s.engine := rfl
@[simp] theorem State.raise_settings (s : State) (e : EventSource) : (s.raise e).settings = s.settings := rfl
@[simp] theorem State.raise_mailbox (s : State) (e : EventSource) : (s.raise e).mailbox = s.mailbox := rfl
@[simp] theorem State.raise_command (s : State) (e : EventSource) : (s.raise e).command = s.command := rfl
@[simp] theorem State.raise_refusal (s : State) (e : EventSource) : (s.raise e).refusal = s.refusal := rfl
@[simp] theorem State.raise_snapshot (s : State) (e : EventSource) : (s.raise e).snapshot = s.snapshot := rfl
@[simp] theorem State.raise_counters (s : State) (e : EventSource) : (s.raise e).counters = s.counters := rfl
@[simp] theorem State.raise_events (s : State) (e : EventSource) :
    (s.raise e).events = s.events.put e.ix { s.events.at e.ix with pending := true } := rfl
@[simp] theorem State.raise_cause (s : State) (e : EventSource) : (s.raise e).cause = s.cause := rfl

/-! ### reach -/

@[simp] theorem State.reach_pending (s : State) (t : Nat) : (s.reach t).pending = s.pending := rfl
@[simp] theorem State.reach_now (s : State) (t : Nat) :
    (s.reach t).now = max s.now t := rfl
@[simp] theorem State.reach_mem (s : State) (t : Nat) : (s.reach t).mem = s.mem := rfl
@[simp] theorem State.reach_bus (s : State) (t : Nat) : (s.reach t).bus = s.bus := rfl
@[simp] theorem State.reach_slots (s : State) (t : Nat) : (s.reach t).slots = s.slots := rfl
@[simp] theorem State.reach_verdicts (s : State) (t : Nat) : (s.reach t).verdicts = s.verdicts := rfl
@[simp] theorem State.reach_links (s : State) (t : Nat) : (s.reach t).links = s.links := rfl
@[simp] theorem State.reach_outcomes (s : State) (t : Nat) : (s.reach t).outcomes = s.outcomes := rfl
@[simp] theorem State.reach_purge (s : State) (t : Nat) : (s.reach t).purge = s.purge := rfl
@[simp] theorem State.reach_metric (s : State) (t : Nat) : (s.reach t).metric = s.metric := rfl
@[simp] theorem State.reach_routes (s : State) (t : Nat) : (s.reach t).routes = s.routes := rfl
@[simp] theorem State.reach_wanted (s : State) (t : Nat) : (s.reach t).wanted = s.wanted := rfl
@[simp] theorem State.reach_walker (s : State) (t : Nat) : (s.reach t).walker = s.walker := rfl
@[simp] theorem State.reach_overlay (s : State) (t : Nat) : (s.reach t).overlay = s.overlay := rfl
@[simp] theorem State.reach_identity (s : State) (t : Nat) : (s.reach t).identity = s.identity := rfl
@[simp] theorem State.reach_engine (s : State) (t : Nat) : (s.reach t).engine = s.engine := rfl
@[simp] theorem State.reach_settings (s : State) (t : Nat) : (s.reach t).settings = s.settings := rfl
@[simp] theorem State.reach_mailbox (s : State) (t : Nat) : (s.reach t).mailbox = s.mailbox := rfl
@[simp] theorem State.reach_command (s : State) (t : Nat) : (s.reach t).command = s.command := rfl
@[simp] theorem State.reach_refusal (s : State) (t : Nat) : (s.reach t).refusal = s.refusal := rfl
@[simp] theorem State.reach_snapshot (s : State) (t : Nat) : (s.reach t).snapshot = s.snapshot := rfl
@[simp] theorem State.reach_counters (s : State) (t : Nat) : (s.reach t).counters = s.counters := rfl
@[simp] theorem State.reach_events (s : State) (t : Nat) : (s.reach t).events = s.events := rfl
@[simp] theorem State.reach_cause (s : State) (t : Nat) : (s.reach t).cause = s.cause := rfl

/-! ### mergeEvict -/

@[simp] theorem State.mergeEvict_pending (s : State) (is : List LinkIx) : (s.mergeEvict is).pending = s.pending := rfl
@[simp] theorem State.mergeEvict_now (s : State) (is : List LinkIx) : (s.mergeEvict is).now = s.now := rfl
@[simp] theorem State.mergeEvict_mem (s : State) (is : List LinkIx) : (s.mergeEvict is).mem = s.mem := rfl
@[simp] theorem State.mergeEvict_bus (s : State) (is : List LinkIx) : (s.mergeEvict is).bus = s.bus := rfl
@[simp] theorem State.mergeEvict_slots (s : State) (is : List LinkIx) : (s.mergeEvict is).slots = s.slots := rfl
@[simp] theorem State.mergeEvict_verdicts (s : State) (is : List LinkIx) : (s.mergeEvict is).verdicts = s.verdicts := rfl
@[simp] theorem State.mergeEvict_links (s : State) (is : List LinkIx) : (s.mergeEvict is).links = s.links := rfl
@[simp] theorem State.mergeEvict_outcomes (s : State) (is : List LinkIx) : (s.mergeEvict is).outcomes = s.outcomes := rfl
@[simp] theorem State.mergeEvict_purge (s : State) (is : List LinkIx) : (s.mergeEvict is).purge = s.purge := rfl
@[simp] theorem State.mergeEvict_metric (s : State) (is : List LinkIx) : (s.mergeEvict is).metric = s.metric := rfl
@[simp] theorem State.mergeEvict_routes (s : State) (is : List LinkIx) : (s.mergeEvict is).routes = s.routes := rfl
@[simp] theorem State.mergeEvict_wanted (s : State) (is : List LinkIx) : (s.mergeEvict is).wanted = s.wanted := rfl
@[simp] theorem State.mergeEvict_walker (s : State) (is : List LinkIx) :
    (s.mergeEvict is).walker = { s.walker with evict := is.foldl addEvict s.walker.evict } := rfl
@[simp] theorem State.mergeEvict_overlay (s : State) (is : List LinkIx) : (s.mergeEvict is).overlay = s.overlay := rfl
@[simp] theorem State.mergeEvict_identity (s : State) (is : List LinkIx) : (s.mergeEvict is).identity = s.identity := rfl
@[simp] theorem State.mergeEvict_engine (s : State) (is : List LinkIx) : (s.mergeEvict is).engine = s.engine := rfl
@[simp] theorem State.mergeEvict_settings (s : State) (is : List LinkIx) : (s.mergeEvict is).settings = s.settings := rfl
@[simp] theorem State.mergeEvict_mailbox (s : State) (is : List LinkIx) : (s.mergeEvict is).mailbox = s.mailbox := rfl
@[simp] theorem State.mergeEvict_command (s : State) (is : List LinkIx) : (s.mergeEvict is).command = s.command := rfl
@[simp] theorem State.mergeEvict_refusal (s : State) (is : List LinkIx) : (s.mergeEvict is).refusal = s.refusal := rfl
@[simp] theorem State.mergeEvict_snapshot (s : State) (is : List LinkIx) : (s.mergeEvict is).snapshot = s.snapshot := rfl
@[simp] theorem State.mergeEvict_counters (s : State) (is : List LinkIx) : (s.mergeEvict is).counters = s.counters := rfl
@[simp] theorem State.mergeEvict_events (s : State) (is : List LinkIx) : (s.mergeEvict is).events = s.events := rfl
@[simp] theorem State.mergeEvict_cause (s : State) (is : List LinkIx) : (s.mergeEvict is).cause = s.cause := rfl

/-! ### finish -/

@[simp] theorem State.finish_pending (s : State) (r : Result) : (s.finish r).pending = s.pending := rfl
@[simp] theorem State.finish_now (s : State) (r : Result) : (s.finish r).now = s.now := rfl
@[simp] theorem State.finish_mem (s : State) (r : Result) : (s.finish r).mem = s.mem := rfl
@[simp] theorem State.finish_bus (s : State) (r : Result) : (s.finish r).bus = s.bus := rfl
@[simp] theorem State.finish_slots (s : State) (r : Result) : (s.finish r).slots = s.slots := rfl
@[simp] theorem State.finish_verdicts (s : State) (r : Result) : (s.finish r).verdicts = s.verdicts := rfl
@[simp] theorem State.finish_links (s : State) (r : Result) : (s.finish r).links = s.links := rfl
@[simp] theorem State.finish_outcomes (s : State) (r : Result) : (s.finish r).outcomes = s.outcomes := rfl
@[simp] theorem State.finish_purge (s : State) (r : Result) : (s.finish r).purge = s.purge := rfl
@[simp] theorem State.finish_metric (s : State) (r : Result) : (s.finish r).metric = s.metric := rfl
@[simp] theorem State.finish_routes (s : State) (r : Result) : (s.finish r).routes = s.routes := rfl
@[simp] theorem State.finish_wanted (s : State) (r : Result) : (s.finish r).wanted = s.wanted := rfl
@[simp] theorem State.finish_walker (s : State) (r : Result) : (s.finish r).walker = s.walker := rfl
@[simp] theorem State.finish_overlay (s : State) (r : Result) : (s.finish r).overlay = s.overlay := rfl
@[simp] theorem State.finish_identity (s : State) (r : Result) : (s.finish r).identity = s.identity := rfl
@[simp] theorem State.finish_engine (s : State) (r : Result) : (s.finish r).engine = s.engine := rfl
@[simp] theorem State.finish_settings (s : State) (r : Result) : (s.finish r).settings = s.settings := rfl
@[simp] theorem State.finish_mailbox (s : State) (r : Result) : (s.finish r).mailbox = s.mailbox := rfl
@[simp] theorem State.finish_command (s : State) (r : Result) :
    (s.finish r).command = { s.command with result := r } := rfl
@[simp] theorem State.finish_refusal (s : State) (r : Result) : (s.finish r).refusal = s.refusal := rfl
@[simp] theorem State.finish_snapshot (s : State) (r : Result) : (s.finish r).snapshot = s.snapshot := rfl
@[simp] theorem State.finish_counters (s : State) (r : Result) : (s.finish r).counters = s.counters := rfl
@[simp] theorem State.finish_events (s : State) (r : Result) : (s.finish r).events = s.events := rfl
@[simp] theorem State.finish_cause (s : State) (r : Result) : (s.finish r).cause = s.cause := rfl

/-! ### goRunning -/

@[simp] theorem State.goRunning_pending (s : State) : (s.goRunning).pending = s.pending := rfl
@[simp] theorem State.goRunning_now (s : State) : (s.goRunning).now = s.now := rfl
@[simp] theorem State.goRunning_mem (s : State) : (s.goRunning).mem = s.mem := rfl
@[simp] theorem State.goRunning_bus (s : State) : (s.goRunning).bus = s.bus := rfl
@[simp] theorem State.goRunning_slots (s : State) : (s.goRunning).slots = s.slots := rfl
@[simp] theorem State.goRunning_verdicts (s : State) : (s.goRunning).verdicts = s.verdicts := rfl
@[simp] theorem State.goRunning_links (s : State) : (s.goRunning).links = s.links := rfl
@[simp] theorem State.goRunning_outcomes (s : State) : (s.goRunning).outcomes = s.outcomes := rfl
@[simp] theorem State.goRunning_purge (s : State) : (s.goRunning).purge = s.purge := rfl
@[simp] theorem State.goRunning_metric (s : State) : (s.goRunning).metric = s.metric := rfl
@[simp] theorem State.goRunning_routes (s : State) : (s.goRunning).routes = s.routes := rfl
@[simp] theorem State.goRunning_wanted (s : State) : (s.goRunning).wanted = s.wanted := rfl
@[simp] theorem State.goRunning_walker (s : State) : (s.goRunning).walker = s.walker := rfl
@[simp] theorem State.goRunning_overlay (s : State) : (s.goRunning).overlay = s.overlay := rfl
@[simp] theorem State.goRunning_identity (s : State) : (s.goRunning).identity = s.identity := rfl
@[simp] theorem State.goRunning_engine (s : State) : (s.goRunning).engine = s.engine := rfl
@[simp] theorem State.goRunning_settings (s : State) : (s.goRunning).settings = s.settings := rfl
@[simp] theorem State.goRunning_mailbox (s : State) : (s.goRunning).mailbox = s.mailbox := rfl
@[simp] theorem State.goRunning_command (s : State) :
    (s.goRunning).command = { s.command with running := true, result := .unknown } := rfl
@[simp] theorem State.goRunning_refusal (s : State) : (s.goRunning).refusal = s.refusal := rfl
@[simp] theorem State.goRunning_snapshot (s : State) : (s.goRunning).snapshot = s.snapshot := rfl
@[simp] theorem State.goRunning_counters (s : State) : (s.goRunning).counters = s.counters := rfl
@[simp] theorem State.goRunning_events (s : State) : (s.goRunning).events = s.events := rfl
@[simp] theorem State.goRunning_cause (s : State) : (s.goRunning).cause = s.cause := rfl

/-! ### setBinding -/

@[simp] theorem State.setBinding_pending (s : State) (p : Port) (b : Binding) : (s.setBinding p b).pending = s.pending := rfl
@[simp] theorem State.setBinding_now (s : State) (p : Port) (b : Binding) : (s.setBinding p b).now = s.now := rfl
@[simp] theorem State.setBinding_mem (s : State) (p : Port) (b : Binding) : (s.setBinding p b).mem = s.mem := rfl
@[simp] theorem State.setBinding_bus (s : State) (p : Port) (b : Binding) : (s.setBinding p b).bus = s.bus := rfl
@[simp] theorem State.setBinding_slots (s : State) (p : Port) (b : Binding) : (s.setBinding p b).slots = s.slots := rfl
@[simp] theorem State.setBinding_verdicts (s : State) (p : Port) (b : Binding) : (s.setBinding p b).verdicts = s.verdicts := rfl
@[simp] theorem State.setBinding_links (s : State) (p : Port) (b : Binding) : (s.setBinding p b).links = s.links := rfl
@[simp] theorem State.setBinding_outcomes (s : State) (p : Port) (b : Binding) : (s.setBinding p b).outcomes = s.outcomes := rfl
@[simp] theorem State.setBinding_purge (s : State) (p : Port) (b : Binding) : (s.setBinding p b).purge = s.purge := rfl
@[simp] theorem State.setBinding_metric (s : State) (p : Port) (b : Binding) : (s.setBinding p b).metric = s.metric := rfl
@[simp] theorem State.setBinding_routes (s : State) (p : Port) (b : Binding) : (s.setBinding p b).routes = s.routes := rfl
@[simp] theorem State.setBinding_wanted (s : State) (p : Port) (b : Binding) : (s.setBinding p b).wanted = s.wanted := rfl
@[simp] theorem State.setBinding_walker (s : State) (p : Port) (b : Binding) : (s.setBinding p b).walker = s.walker := rfl
@[simp] theorem State.setBinding_overlay (s : State) (p : Port) (b : Binding) :
    (s.setBinding p b).overlay = { s.overlay with bindings := s.overlay.bindings.set p.val (some b) } := rfl
@[simp] theorem State.setBinding_identity (s : State) (p : Port) (b : Binding) : (s.setBinding p b).identity = s.identity := rfl
@[simp] theorem State.setBinding_engine (s : State) (p : Port) (b : Binding) : (s.setBinding p b).engine = s.engine := rfl
@[simp] theorem State.setBinding_settings (s : State) (p : Port) (b : Binding) : (s.setBinding p b).settings = s.settings := rfl
@[simp] theorem State.setBinding_mailbox (s : State) (p : Port) (b : Binding) : (s.setBinding p b).mailbox = s.mailbox := rfl
@[simp] theorem State.setBinding_command (s : State) (p : Port) (b : Binding) : (s.setBinding p b).command = s.command := rfl
@[simp] theorem State.setBinding_refusal (s : State) (p : Port) (b : Binding) : (s.setBinding p b).refusal = s.refusal := rfl
@[simp] theorem State.setBinding_snapshot (s : State) (p : Port) (b : Binding) : (s.setBinding p b).snapshot = s.snapshot := rfl
@[simp] theorem State.setBinding_counters (s : State) (p : Port) (b : Binding) : (s.setBinding p b).counters = s.counters := rfl
@[simp] theorem State.setBinding_events (s : State) (p : Port) (b : Binding) : (s.setBinding p b).events = s.events := rfl
@[simp] theorem State.setBinding_cause (s : State) (p : Port) (b : Binding) : (s.setBinding p b).cause = s.cause := rfl

/-! ### dropBinding -/

@[simp] theorem State.dropBinding_pending (s : State) (p : Port) : (s.dropBinding p).pending = s.pending := rfl
@[simp] theorem State.dropBinding_now (s : State) (p : Port) : (s.dropBinding p).now = s.now := rfl
@[simp] theorem State.dropBinding_mem (s : State) (p : Port) : (s.dropBinding p).mem = s.mem := rfl
@[simp] theorem State.dropBinding_bus (s : State) (p : Port) : (s.dropBinding p).bus = s.bus := rfl
@[simp] theorem State.dropBinding_slots (s : State) (p : Port) : (s.dropBinding p).slots = s.slots := rfl
@[simp] theorem State.dropBinding_verdicts (s : State) (p : Port) : (s.dropBinding p).verdicts = s.verdicts := rfl
@[simp] theorem State.dropBinding_links (s : State) (p : Port) : (s.dropBinding p).links = s.links := rfl
@[simp] theorem State.dropBinding_outcomes (s : State) (p : Port) : (s.dropBinding p).outcomes = s.outcomes := rfl
@[simp] theorem State.dropBinding_purge (s : State) (p : Port) : (s.dropBinding p).purge = s.purge := rfl
@[simp] theorem State.dropBinding_metric (s : State) (p : Port) : (s.dropBinding p).metric = s.metric := rfl
@[simp] theorem State.dropBinding_routes (s : State) (p : Port) : (s.dropBinding p).routes = s.routes := rfl
@[simp] theorem State.dropBinding_wanted (s : State) (p : Port) : (s.dropBinding p).wanted = s.wanted := rfl
@[simp] theorem State.dropBinding_walker (s : State) (p : Port) : (s.dropBinding p).walker = s.walker := rfl
@[simp] theorem State.dropBinding_overlay (s : State) (p : Port) :
    (s.dropBinding p).overlay = { s.overlay with bindings := s.overlay.bindings.set p.val none } := rfl
@[simp] theorem State.dropBinding_identity (s : State) (p : Port) : (s.dropBinding p).identity = s.identity := rfl
@[simp] theorem State.dropBinding_engine (s : State) (p : Port) : (s.dropBinding p).engine = s.engine := rfl
@[simp] theorem State.dropBinding_settings (s : State) (p : Port) : (s.dropBinding p).settings = s.settings := rfl
@[simp] theorem State.dropBinding_mailbox (s : State) (p : Port) : (s.dropBinding p).mailbox = s.mailbox := rfl
@[simp] theorem State.dropBinding_command (s : State) (p : Port) : (s.dropBinding p).command = s.command := rfl
@[simp] theorem State.dropBinding_refusal (s : State) (p : Port) : (s.dropBinding p).refusal = s.refusal := rfl
@[simp] theorem State.dropBinding_snapshot (s : State) (p : Port) : (s.dropBinding p).snapshot = s.snapshot := rfl
@[simp] theorem State.dropBinding_counters (s : State) (p : Port) : (s.dropBinding p).counters = s.counters := rfl
@[simp] theorem State.dropBinding_events (s : State) (p : Port) : (s.dropBinding p).events = s.events := rfl
@[simp] theorem State.dropBinding_cause (s : State) (p : Port) : (s.dropBinding p).cause = s.cause := rfl

/-! ### taken -/

@[simp] theorem State.taken_pending (s : State) (c t : Byte) : (s.taken c t).pending = s.pending := rfl
@[simp] theorem State.taken_now (s : State) (c t : Byte) : (s.taken c t).now = s.now := rfl
@[simp] theorem State.taken_mem (s : State) (c t : Byte) : (s.taken c t).mem = s.mem := rfl
@[simp] theorem State.taken_bus (s : State) (c t : Byte) : (s.taken c t).bus = s.bus := rfl
@[simp] theorem State.taken_slots (s : State) (c t : Byte) : (s.taken c t).slots = s.slots := rfl
@[simp] theorem State.taken_verdicts (s : State) (c t : Byte) : (s.taken c t).verdicts = s.verdicts := rfl
@[simp] theorem State.taken_links (s : State) (c t : Byte) : (s.taken c t).links = s.links := rfl
@[simp] theorem State.taken_outcomes (s : State) (c t : Byte) : (s.taken c t).outcomes = s.outcomes := rfl
@[simp] theorem State.taken_purge (s : State) (c t : Byte) : (s.taken c t).purge = s.purge := rfl
@[simp] theorem State.taken_metric (s : State) (c t : Byte) : (s.taken c t).metric = s.metric := rfl
@[simp] theorem State.taken_routes (s : State) (c t : Byte) : (s.taken c t).routes = s.routes := rfl
@[simp] theorem State.taken_wanted (s : State) (c t : Byte) : (s.taken c t).wanted = s.wanted := rfl
@[simp] theorem State.taken_walker (s : State) (c t : Byte) : (s.taken c t).walker = s.walker := rfl
@[simp] theorem State.taken_overlay (s : State) (c t : Byte) : (s.taken c t).overlay = s.overlay := rfl
@[simp] theorem State.taken_identity (s : State) (c t : Byte) : (s.taken c t).identity = s.identity := rfl
@[simp] theorem State.taken_engine (s : State) (c t : Byte) : (s.taken c t).engine = s.engine := rfl
@[simp] theorem State.taken_settings (s : State) (c t : Byte) : (s.taken c t).settings = s.settings := rfl
@[simp] theorem State.taken_mailbox (s : State) (c t : Byte) : (s.taken c t).mailbox = s.mailbox := rfl
@[simp] theorem State.taken_command (s : State) (c t : Byte) :
    (s.taken c t).command = { code := c, tag := t, tagPresent := true, running := false, result := .unknown, args := Vector.ofFn fun i : Fin 3 => s.mailbox[i.val] } := rfl
@[simp] theorem State.taken_refusal (s : State) (c t : Byte) : (s.taken c t).refusal = s.refusal := rfl
@[simp] theorem State.taken_snapshot (s : State) (c t : Byte) : (s.taken c t).snapshot = s.snapshot := rfl
@[simp] theorem State.taken_counters (s : State) (c t : Byte) : (s.taken c t).counters = s.counters := rfl
@[simp] theorem State.taken_events (s : State) (c t : Byte) : (s.taken c t).events = s.events := rfl
@[simp] theorem State.taken_cause (s : State) (c t : Byte) : (s.taken c t).cause = s.cause := rfl

/-! ### busy -/

@[simp] theorem State.busy_pending (s : State) (c t : Byte) : (s.busy c t).pending = s.pending := rfl
@[simp] theorem State.busy_now (s : State) (c t : Byte) : (s.busy c t).now = s.now := rfl
@[simp] theorem State.busy_mem (s : State) (c t : Byte) : (s.busy c t).mem = s.mem := rfl
@[simp] theorem State.busy_bus (s : State) (c t : Byte) : (s.busy c t).bus = s.bus := rfl
@[simp] theorem State.busy_slots (s : State) (c t : Byte) : (s.busy c t).slots = s.slots := rfl
@[simp] theorem State.busy_verdicts (s : State) (c t : Byte) : (s.busy c t).verdicts = s.verdicts := rfl
@[simp] theorem State.busy_links (s : State) (c t : Byte) : (s.busy c t).links = s.links := rfl
@[simp] theorem State.busy_outcomes (s : State) (c t : Byte) : (s.busy c t).outcomes = s.outcomes := rfl
@[simp] theorem State.busy_purge (s : State) (c t : Byte) : (s.busy c t).purge = s.purge := rfl
@[simp] theorem State.busy_metric (s : State) (c t : Byte) : (s.busy c t).metric = s.metric := rfl
@[simp] theorem State.busy_routes (s : State) (c t : Byte) : (s.busy c t).routes = s.routes := rfl
@[simp] theorem State.busy_wanted (s : State) (c t : Byte) : (s.busy c t).wanted = s.wanted := rfl
@[simp] theorem State.busy_walker (s : State) (c t : Byte) : (s.busy c t).walker = s.walker := rfl
@[simp] theorem State.busy_overlay (s : State) (c t : Byte) : (s.busy c t).overlay = s.overlay := rfl
@[simp] theorem State.busy_identity (s : State) (c t : Byte) : (s.busy c t).identity = s.identity := rfl
@[simp] theorem State.busy_engine (s : State) (c t : Byte) : (s.busy c t).engine = s.engine := rfl
@[simp] theorem State.busy_settings (s : State) (c t : Byte) : (s.busy c t).settings = s.settings := rfl
@[simp] theorem State.busy_mailbox (s : State) (c t : Byte) : (s.busy c t).mailbox = s.mailbox := rfl
@[simp] theorem State.busy_command (s : State) (c t : Byte) : (s.busy c t).command = s.command := rfl
@[simp] theorem State.busy_refusal (s : State) (c t : Byte) :
    (s.busy c t).refusal = { present := true, code := c, tag := t } := rfl
@[simp] theorem State.busy_snapshot (s : State) (c t : Byte) : (s.busy c t).snapshot = s.snapshot := rfl
@[simp] theorem State.busy_counters (s : State) (c t : Byte) : (s.busy c t).counters = s.counters := rfl
@[simp] theorem State.busy_events (s : State) (c t : Byte) : (s.busy c t).events = s.events := rfl
@[simp] theorem State.busy_cause (s : State) (c t : Byte) : (s.busy c t).cause = s.cause := rfl

/-! ### latch -/

@[simp] theorem State.latch_pending (s : State) (l : Fin 6) (d : Word) (be : Enables) : (s.latch l d be).pending = s.pending := rfl
@[simp] theorem State.latch_now (s : State) (l : Fin 6) (d : Word) (be : Enables) : (s.latch l d be).now = s.now := rfl
@[simp] theorem State.latch_mem (s : State) (l : Fin 6) (d : Word) (be : Enables) : (s.latch l d be).mem = s.mem := rfl
@[simp] theorem State.latch_bus (s : State) (l : Fin 6) (d : Word) (be : Enables) : (s.latch l d be).bus = s.bus := rfl
@[simp] theorem State.latch_slots (s : State) (l : Fin 6) (d : Word) (be : Enables) : (s.latch l d be).slots = s.slots := rfl
@[simp] theorem State.latch_verdicts (s : State) (l : Fin 6) (d : Word) (be : Enables) : (s.latch l d be).verdicts = s.verdicts := rfl
@[simp] theorem State.latch_links (s : State) (l : Fin 6) (d : Word) (be : Enables) : (s.latch l d be).links = s.links := rfl
@[simp] theorem State.latch_outcomes (s : State) (l : Fin 6) (d : Word) (be : Enables) : (s.latch l d be).outcomes = s.outcomes := rfl
@[simp] theorem State.latch_purge (s : State) (l : Fin 6) (d : Word) (be : Enables) : (s.latch l d be).purge = s.purge := rfl
@[simp] theorem State.latch_metric (s : State) (l : Fin 6) (d : Word) (be : Enables) : (s.latch l d be).metric = s.metric := rfl
@[simp] theorem State.latch_routes (s : State) (l : Fin 6) (d : Word) (be : Enables) : (s.latch l d be).routes = s.routes := rfl
@[simp] theorem State.latch_wanted (s : State) (l : Fin 6) (d : Word) (be : Enables) : (s.latch l d be).wanted = s.wanted := rfl
@[simp] theorem State.latch_walker (s : State) (l : Fin 6) (d : Word) (be : Enables) : (s.latch l d be).walker = s.walker := rfl
@[simp] theorem State.latch_overlay (s : State) (l : Fin 6) (d : Word) (be : Enables) : (s.latch l d be).overlay = s.overlay := rfl
@[simp] theorem State.latch_identity (s : State) (l : Fin 6) (d : Word) (be : Enables) : (s.latch l d be).identity = s.identity := rfl
@[simp] theorem State.latch_engine (s : State) (l : Fin 6) (d : Word) (be : Enables) : (s.latch l d be).engine = s.engine := rfl
@[simp] theorem State.latch_settings (s : State) (l : Fin 6) (d : Word) (be : Enables) : (s.latch l d be).settings = s.settings := rfl
@[simp] theorem State.latch_mailbox (s : State) (l : Fin 6) (d : Word) (be : Enables) :
    (s.latch l d be).mailbox = s.mailbox.set l.val (mergeBytes be s.mailbox[l.val] d) := rfl
@[simp] theorem State.latch_command (s : State) (l : Fin 6) (d : Word) (be : Enables) : (s.latch l d be).command = s.command := rfl
@[simp] theorem State.latch_refusal (s : State) (l : Fin 6) (d : Word) (be : Enables) : (s.latch l d be).refusal = s.refusal := rfl
@[simp] theorem State.latch_snapshot (s : State) (l : Fin 6) (d : Word) (be : Enables) : (s.latch l d be).snapshot = s.snapshot := rfl
@[simp] theorem State.latch_counters (s : State) (l : Fin 6) (d : Word) (be : Enables) : (s.latch l d be).counters = s.counters := rfl
@[simp] theorem State.latch_events (s : State) (l : Fin 6) (d : Word) (be : Enables) : (s.latch l d be).events = s.events := rfl
@[simp] theorem State.latch_cause (s : State) (l : Fin 6) (d : Word) (be : Enables) : (s.latch l d be).cause = s.cause := rfl

/-! ### putRegion -/

@[simp] theorem State.putRegion_pending (s : State) (i : Fin 4) (r : Option Region) : (s.putRegion i r).pending = s.pending := rfl
@[simp] theorem State.putRegion_now (s : State) (i : Fin 4) (r : Option Region) : (s.putRegion i r).now = s.now := rfl
@[simp] theorem State.putRegion_mem (s : State) (i : Fin 4) (r : Option Region) : (s.putRegion i r).mem = s.mem := rfl
@[simp] theorem State.putRegion_bus (s : State) (i : Fin 4) (r : Option Region) :
    (s.putRegion i r).bus = { s.bus with regions := s.regionsWith i r } := rfl
@[simp] theorem State.putRegion_slots (s : State) (i : Fin 4) (r : Option Region) : (s.putRegion i r).slots = s.slots := rfl
@[simp] theorem State.putRegion_verdicts (s : State) (i : Fin 4) (r : Option Region) : (s.putRegion i r).verdicts = s.verdicts := rfl
@[simp] theorem State.putRegion_links (s : State) (i : Fin 4) (r : Option Region) : (s.putRegion i r).links = s.links := rfl
@[simp] theorem State.putRegion_outcomes (s : State) (i : Fin 4) (r : Option Region) : (s.putRegion i r).outcomes = s.outcomes := rfl
@[simp] theorem State.putRegion_purge (s : State) (i : Fin 4) (r : Option Region) : (s.putRegion i r).purge = s.purge := rfl
@[simp] theorem State.putRegion_metric (s : State) (i : Fin 4) (r : Option Region) : (s.putRegion i r).metric = s.metric := rfl
@[simp] theorem State.putRegion_routes (s : State) (i : Fin 4) (r : Option Region) : (s.putRegion i r).routes = s.routes := rfl
@[simp] theorem State.putRegion_wanted (s : State) (i : Fin 4) (r : Option Region) : (s.putRegion i r).wanted = s.wanted := rfl
@[simp] theorem State.putRegion_walker (s : State) (i : Fin 4) (r : Option Region) : (s.putRegion i r).walker = s.walker := rfl
@[simp] theorem State.putRegion_overlay (s : State) (i : Fin 4) (r : Option Region) : (s.putRegion i r).overlay = s.overlay := rfl
@[simp] theorem State.putRegion_identity (s : State) (i : Fin 4) (r : Option Region) : (s.putRegion i r).identity = s.identity := rfl
@[simp] theorem State.putRegion_engine (s : State) (i : Fin 4) (r : Option Region) : (s.putRegion i r).engine = s.engine := rfl
@[simp] theorem State.putRegion_settings (s : State) (i : Fin 4) (r : Option Region) : (s.putRegion i r).settings = s.settings := rfl
@[simp] theorem State.putRegion_mailbox (s : State) (i : Fin 4) (r : Option Region) : (s.putRegion i r).mailbox = s.mailbox := rfl
@[simp] theorem State.putRegion_command (s : State) (i : Fin 4) (r : Option Region) : (s.putRegion i r).command = s.command := rfl
@[simp] theorem State.putRegion_refusal (s : State) (i : Fin 4) (r : Option Region) : (s.putRegion i r).refusal = s.refusal := rfl
@[simp] theorem State.putRegion_snapshot (s : State) (i : Fin 4) (r : Option Region) : (s.putRegion i r).snapshot = s.snapshot := rfl
@[simp] theorem State.putRegion_counters (s : State) (i : Fin 4) (r : Option Region) : (s.putRegion i r).counters = s.counters := rfl
@[simp] theorem State.putRegion_events (s : State) (i : Fin 4) (r : Option Region) : (s.putRegion i r).events = s.events := rfl
@[simp] theorem State.putRegion_cause (s : State) (i : Fin 4) (r : Option Region) : (s.putRegion i r).cause = s.cause := rfl

/-! ### releaseRead -/

@[simp] theorem State.releaseRead_pending (s : State) (w : Word) : (s.releaseRead w).pending = s.pending := rfl
@[simp] theorem State.releaseRead_now (s : State) (w : Word) : (s.releaseRead w).now = s.now := rfl
@[simp] theorem State.releaseRead_mem (s : State) (w : Word) : (s.releaseRead w).mem = s.mem := rfl
@[simp] theorem State.releaseRead_bus (s : State) (w : Word) :
    (s.releaseRead w).bus = { s.bus with held := none, readData := w } := rfl
@[simp] theorem State.releaseRead_slots (s : State) (w : Word) : (s.releaseRead w).slots = s.slots := rfl
@[simp] theorem State.releaseRead_verdicts (s : State) (w : Word) : (s.releaseRead w).verdicts = s.verdicts := rfl
@[simp] theorem State.releaseRead_links (s : State) (w : Word) : (s.releaseRead w).links = s.links := rfl
@[simp] theorem State.releaseRead_outcomes (s : State) (w : Word) : (s.releaseRead w).outcomes = s.outcomes := rfl
@[simp] theorem State.releaseRead_purge (s : State) (w : Word) : (s.releaseRead w).purge = s.purge := rfl
@[simp] theorem State.releaseRead_metric (s : State) (w : Word) : (s.releaseRead w).metric = s.metric := rfl
@[simp] theorem State.releaseRead_routes (s : State) (w : Word) : (s.releaseRead w).routes = s.routes := rfl
@[simp] theorem State.releaseRead_wanted (s : State) (w : Word) : (s.releaseRead w).wanted = s.wanted := rfl
@[simp] theorem State.releaseRead_walker (s : State) (w : Word) : (s.releaseRead w).walker = s.walker := rfl
@[simp] theorem State.releaseRead_overlay (s : State) (w : Word) : (s.releaseRead w).overlay = s.overlay := rfl
@[simp] theorem State.releaseRead_identity (s : State) (w : Word) : (s.releaseRead w).identity = s.identity := rfl
@[simp] theorem State.releaseRead_engine (s : State) (w : Word) : (s.releaseRead w).engine = s.engine := rfl
@[simp] theorem State.releaseRead_settings (s : State) (w : Word) : (s.releaseRead w).settings = s.settings := rfl
@[simp] theorem State.releaseRead_mailbox (s : State) (w : Word) : (s.releaseRead w).mailbox = s.mailbox := rfl
@[simp] theorem State.releaseRead_command (s : State) (w : Word) : (s.releaseRead w).command = s.command := rfl
@[simp] theorem State.releaseRead_refusal (s : State) (w : Word) : (s.releaseRead w).refusal = s.refusal := rfl
@[simp] theorem State.releaseRead_snapshot (s : State) (w : Word) : (s.releaseRead w).snapshot = s.snapshot := rfl
@[simp] theorem State.releaseRead_counters (s : State) (w : Word) : (s.releaseRead w).counters = s.counters := rfl
@[simp] theorem State.releaseRead_events (s : State) (w : Word) : (s.releaseRead w).events = s.events := rfl
@[simp] theorem State.releaseRead_cause (s : State) (w : Word) : (s.releaseRead w).cause = s.cause := rfl

end Sys2Proof.Machine
end

