-- ==== Sys2Proof/Laws/Memory.lean ====
section
/-! SUPPORT. Packet memory: reading after writing, and the canonical form that every write keeps. -/

namespace Sys2Proof.Machine

/-- A byte below every listed address is unwritten. -/
theorem Memory.read_below (m : Memory) (a : Nat) (h : ∀ c ∈ m, a < c.1) : m.read a = Config.unwrittenByte := by
  induction m with
  | nil => rfl
  | cons c m ih =>
    have hc := h c (by simp)
    rw [Memory.read, if_neg (by omega)]
    exact ih fun d hd => h d (by simp [hd])

/-- An address is listed after a write only if it was, or is the one written. -/
theorem Memory.mem_write {m : Memory} {a : Nat} {b : Byte} {c : Host.Cell} (h : c ∈ m.write a b) :
    c ∈ m ∨ c = (a, b) := by
  induction m with
  | nil =>
    rw [Memory.write] at h
    split at h <;> simp_all
  | cons d m ih =>
    rw [Memory.write] at h
    split at h
    · split at h <;> grind
    · split at h
      · split at h <;> grind
      · simp only [List.mem_cons] at h ⊢
        rcases h with h | h
        · exact Or.inl (Or.inl h)
        · rcases ih h with h | h
          · exact Or.inl (Or.inr h)
          · exact Or.inr h

/-- The byte read at the address written. -/
theorem Memory.read_write_same (m : Memory) (a : Nat) (b : Byte) (h : m.wf) : (m.write a b).read a = b := by
  induction m with
  | nil =>
    rw [Memory.write]
    split
    · rename_i hb; rw [hb]; rfl
    · simp [Memory.read]
  | cons c m ih =>
    have hp := List.pairwise_cons.mp h.1
    have hw : Memory.wf m := ⟨hp.2, fun d hd => h.2 d (by simp [hd])⟩
    rw [Memory.write]
    split
    · rename_i hlt
      split
      · rename_i hb
        rw [hb]
        exact Memory.read_below _ _ fun d hd => by
          rcases List.mem_cons.mp hd with rfl | hd
          · exact hlt
          · exact Nat.lt_trans hlt (hp.1 d hd)
      · simp [Memory.read]
    · split
      · rename_i _ heq
        split
        · rename_i hb
          rw [hb]
          exact Memory.read_below _ _ fun d hd => by rw [heq]; exact hp.1 d hd
        · simp [Memory.read]
      · rename_i h1 h2
        rw [Memory.read, if_neg fun h => h2 h.symm]
        exact ih hw

/-- The byte read at another address. -/
theorem Memory.read_write_other (m : Memory) {a a' : Nat} (b : Byte) (h : a' ≠ a) :
    (m.write a b).read a' = m.read a' := by
  induction m with
  | nil =>
    rw [Memory.write]
    split
    · rfl
    · exact if_neg fun h' => h h'.symm
  | cons c m ih =>
    rw [Memory.write]
    split
    · split
      · rfl
      · rw [Memory.read, if_neg fun h' => h h'.symm]
    · split
      · rename_i heq
        have hc : c.1 ≠ a' := fun h' => h (by rw [← h', ← heq])
        split
        · rw [Memory.read, if_neg hc]
        · rw [Memory.read, if_neg fun h' => h h'.symm, Memory.read, if_neg hc]
      · simp only [Memory.read]
        split
        · rfl
        · exact ih

/-- A write inside the port space keeps the canonical form. -/
theorem Memory.write_wf {m : Memory} {a : Nat} (b : Byte) (h : m.wf) (ha : a < Config.portSpace) :
    Memory.wf (m.write a b) := by
  induction m with
  | nil =>
    rw [Memory.write]
    split
    · exact h
    · rename_i hb
      exact ⟨by simp, by simpa using ⟨hb, ha⟩⟩
  | cons c m ih =>
    have hp := List.pairwise_cons.mp h.1
    have hw : Memory.wf m := ⟨hp.2, fun d hd => h.2 d (by simp [hd])⟩
    have hc := h.2 c (by simp)
    rw [Memory.write]
    split
    · rename_i hlt
      split
      · exact h
      · rename_i hb
        refine ⟨List.pairwise_cons.mpr ⟨fun d hd => ?_, h.1⟩, fun d hd => ?_⟩
        · rcases List.mem_cons.mp hd with rfl | hd
          · exact hlt
          · exact Nat.lt_trans hlt (hp.1 d hd)
        · rcases List.mem_cons.mp hd with rfl | hd
          · exact ⟨hb, ha⟩
          · exact h.2 d hd
    · split
      · rename_i _ heq
        split
        · exact hw
        · rename_i hb
          refine ⟨List.pairwise_cons.mpr ⟨fun d hd => ?_, hw.1⟩, fun d hd => ?_⟩
          · show a < d.1
            rw [heq]; exact hp.1 d hd
          · rcases List.mem_cons.mp hd with rfl | hd
            · exact ⟨hb, ha⟩
            · exact hw.2 d hd
      · rename_i h1 h2
        have hi := ih hw
        refine ⟨List.pairwise_cons.mpr ⟨fun d hd => ?_, hi.1⟩, fun d hd => ?_⟩
        · rcases Memory.mem_write hd with hd | rfl
          · exact hp.1 d hd
          · show c.1 < a
            omega
        · rcases List.mem_cons.mp hd with rfl | hd
          · exact hc
          · exact hi.2 d hd

/-- A word's bytes lie in the port space. -/
theorem byteAddr_lt (a : WordAddr) (i : Fin 4) : byteAddr a i < Config.portSpace := by
  have h : a.toNat < 4194304 := a.isLt
  have hi := i.isLt
  unfold byteAddr
  show _ < 16777216
  omega

/-- The bytes of different words, and different bytes of one word, have different addresses. -/
theorem byteAddr_inj {a b : WordAddr} {i j : Fin 4} (h : byteAddr a i = byteAddr b j) : a = b ∧ i = j := by
  have hi := i.isLt
  have hj := j.isLt
  unfold byteAddr at h
  exact ⟨BitVec.eq_of_toNat_eq (by omega), Fin.ext (by omega)⟩

/-- Writing a lane keeps the canonical form. -/
theorem Memory.writeLane_wf {m : Memory} (a : WordAddr) (d : Word) (be : Enables) (i : Fin 4) (h : m.wf) :
    Memory.wf (m.writeLane a d be i) := by
  rw [Memory.writeLane]
  split
  · exact Memory.write_wf _ h (byteAddr_lt a i)
  · exact h

/-- Writing a word keeps the canonical form. -/
theorem Memory.writeWord_wf {m : Memory} (a : WordAddr) (d : Word) (be : Enables) (h : m.wf) :
    Memory.wf (m.writeWord a d be) := by
  unfold Memory.writeWord
  exact Memory.writeLane_wf _ _ _ _ (Memory.writeLane_wf _ _ _ _ (Memory.writeLane_wf _ _ _ _
    (Memory.writeLane_wf _ _ _ _ h)))

/-- A lane's own byte after it is written. -/
theorem Memory.read_writeLane_same (m : Memory) (a : WordAddr) (d : Word) (be : Enables) (i : Fin 4) (h : m.wf) :
    (m.writeLane a d be i).read (byteAddr a i) = if enabled be i then byteOf d i else m.read (byteAddr a i) := by
  rw [Memory.writeLane]
  split
  · exact Memory.read_write_same _ _ _ h
  · rfl

/-- Every other byte after a lane is written. -/
theorem Memory.read_writeLane_other (m : Memory) {a : WordAddr} (d : Word) (be : Enables) {i : Fin 4} {x : Nat}
    (h : x ≠ byteAddr a i) : (m.writeLane a d be i).read x = m.read x := by
  rw [Memory.writeLane]
  split
  · exact Memory.read_write_other _ _ h
  · rfl

/-- A byte outside the word written. -/
theorem Memory.read_writeWord_other (m : Memory) {a : WordAddr} (d : Word) (be : Enables) {x : Nat}
    (h : ∀ i, x ≠ byteAddr a i) : (m.writeWord a d be).read x = m.read x := by
  unfold Memory.writeWord
  rw [Memory.read_writeLane_other _ _ _ (h 3), Memory.read_writeLane_other _ _ _ (h 2),
    Memory.read_writeLane_other _ _ _ (h 1), Memory.read_writeLane_other _ _ _ (h 0)]

/-- A byte of the word written: the new byte where its enable is set, else the old one. -/
theorem Memory.read_writeWord_same (m : Memory) (a : WordAddr) (d : Word) (be : Enables) (i : Fin 4) (h : m.wf) :
    (m.writeWord a d be).read (byteAddr a i) = if enabled be i then byteOf d i else m.read (byteAddr a i) := by
  have w0 := Memory.writeLane_wf a d be 0 h
  have w1 := Memory.writeLane_wf a d be 1 w0
  have w2 := Memory.writeLane_wf a d be 2 w1
  have ne : ∀ {i j : Fin 4}, i ≠ j → byteAddr a i ≠ byteAddr a j := fun hij he => hij (byteAddr_inj he).2
  unfold Memory.writeWord
  match i with
  | 0 =>
    rw [Memory.read_writeLane_other _ _ _ (ne (by decide)), Memory.read_writeLane_other _ _ _ (ne (by decide)),
      Memory.read_writeLane_other _ _ _ (ne (by decide)), Memory.read_writeLane_same _ _ _ _ _ h]
  | 1 =>
    rw [Memory.read_writeLane_other _ _ _ (ne (by decide)), Memory.read_writeLane_other _ _ _ (ne (by decide)),
      Memory.read_writeLane_same _ _ _ _ _ w0, Memory.read_writeLane_other _ _ _ (ne (by decide))]
  | 2 =>
    rw [Memory.read_writeLane_other _ _ _ (ne (by decide)), Memory.read_writeLane_same _ _ _ _ _ w1,
      Memory.read_writeLane_other _ _ _ (ne (by decide)), Memory.read_writeLane_other _ _ _ (ne (by decide))]
  | 3 =>
    rw [Memory.read_writeLane_same _ _ _ _ _ w2, Memory.read_writeLane_other _ _ _ (ne (by decide)),
      Memory.read_writeLane_other _ _ _ (ne (by decide)), Memory.read_writeLane_other _ _ _ (ne (by decide))]

/-- Another word is unchanged. -/
theorem Memory.readWord_writeWord_other (m : Memory) {a b : WordAddr} (d : Word) (be : Enables) (h : b ≠ a) :
    (m.writeWord a d be).readWord b = m.readWord b := by
  have hx : ∀ j i, byteAddr b j ≠ byteAddr a i := fun j i he => h (byteAddr_inj he).1
  unfold Memory.readWord
  rw [Memory.read_writeWord_other _ _ _ (hx 0), Memory.read_writeWord_other _ _ _ (hx 1),
    Memory.read_writeWord_other _ _ _ (hx 2), Memory.read_writeWord_other _ _ _ (hx 3)]

/-- A write that reaches memory keeps the canonical form. -/
theorem State.writeMem_wf {s : State} (a : WordAddr) (d : Word) (be : Enables) (h : Memory.wf s.mem) :
    Memory.wf (s.writeMem a d be).mem := Memory.writeWord_wf a d be h

end Sys2Proof.Machine
end

