-- ==== Sys2Proof/Laws/Port.lean ====
section
/-! SUPPORT. Accesses on the port: when one takes place, what a write to the strip and a go write come to, and the class of an
access from its address and role. -/

namespace Sys2Proof.Machine

/-! ### Fields of words -/

/-- A field as a number, by division. -/
theorem numField_eq (w : Word) (lo len : Nat) : numField w lo len = w.toNat / 2 ^ lo % 2 ^ len := by
  simp [numField, bitField, Nat.shiftRight_eq_div_pow]

/-- The two halves of a word are its extracted fields. -/
theorem hiHalf_eq (w : Word) : hiHalf w = w.extractLsb' 16 16 := rfl

/-- The low half of a word. -/
theorem loHalf_eq (w : Word) : loHalf w = w.extractLsb' 0 16 := rfl

/-- A node number that names no node is 0 or 65535. -/
theorem notANode_iff (n : Node) : notANode n = true ↔ n = 0 ∨ n = 0xFFFF#16 := by
  simp [notANode, broadcast]

/-- A node number names a node when it is neither 0 nor 65535. -/
theorem notANode_eq_false (n : Node) : notANode n = false ↔ n ≠ 0 ∧ n ≠ 0xFFFF#16 := by
  simp [notANode, broadcast]

/-! ### The engine state -/

/-- The engine runs outside TRANSPARENT. -/
theorem State.engineRuns_iff {s : State} : s.engineRuns = true ↔ s.engine.state ≠ .transparent := by
  simp [State.engineRuns]

/-- In TRANSPARENT the engine does not run. -/
theorem State.engineRuns_false {s : State} : s.engineRuns = false ↔ s.engine.state = .transparent := by
  simp [State.engineRuns]

/-! ### The port -/

/-- An access takes place on a free port. -/
theorem State.onPort_free {s : State} (h : s.bus.held = none) (f : State → State) : s.onPort f = f s := by
  simp [State.onPort, State.cReady, h]

/-- An access waits while another is held (log 2). -/
theorem State.onPort_held {s : State} {x : Held} (h : s.bus.held = some x) (f : State → State) : s.onPort f = s := by
  simp [State.onPort, State.cReady, h]

/-- A hardware reset is on exactly while RESET is low or a power-on reset has not ended (R158). -/
theorem State.inReset_iff {s : State} : s.inReset = true ↔ s.bus.resetLow = true ∨ s.bus.power ≠ .ended := by
  simp [State.inReset]

/-- No hardware reset is on: RESET is high and no power-on reset is in progress. -/
theorem State.inReset_eq_false {s : State} :
    s.inReset = false ↔ s.bus.resetLow = false ∧ s.bus.power = .ended := by
  simp [State.inReset]

/-- Whether a hardware reset is on depends on the tap alone. -/
theorem State.inReset_congr {s t : State} (h : t.bus = s.bus) : t.inReset = s.inReset := by
  simp only [State.inReset, h]

/-- A strip write outside a hardware reset reaches memory and takes effect. -/
theorem State.stripWrite_free {s : State} (h : s.inReset = false) (w : Fin 256) (d : Word) (be : Enables)
    (f : State → State) :
    s.stripWrite w d be f = f { s with mem := s.mem.writeWord (stripAddr s.bus.position w) d be } := by
  unfold State.stripWrite
  dsimp only
  rw [h]
  rfl

/-- A strip write during a hardware reset only reaches memory. -/
theorem State.stripWrite_reset {s : State} (h : s.inReset = true) (w : Fin 256) (d : Word) (be : Enables)
    (f : State → State) :
    s.stripWrite w d be f = { s with mem := s.mem.writeWord (stripAddr s.bus.position w) d be } := by
  unfold State.stripWrite
  dsimp only
  rw [h]
  rfl

/-- The state a taken command's body starts from: memory and the status word are written (R163). -/
def State.goBase (s : State) (code tag : Byte) : State := s.completed code tag .unknown

/-- A go write that is taken runs the body from `goBase` (R163). -/
theorem State.goWrite_taken {s : State} (h : s.takesCommands) (code tag : Byte) (f : State → State) :
    s.onPort (fun t => t.goWrite code tag f) = f (s.goBase code tag) := by
  rw [State.onPort_free h.1.1, State.goWrite, State.stripWrite_free h.1.2]
  simp only [State.takeCommand, h.2]
  rfl

/-- A go write made while a command is RUNNING is refused with BUSY (R165). -/
theorem State.goWrite_busy {s : State} (h : s.portFree) (hr : s.command.running = true) (code tag : Byte)
    (f : State → State) :
    s.onPort (fun t => t.goWrite code tag f) =
      { s with
        mem := s.memWithGo code tag
        refusal := { present := true, code := code, tag := tag } } := by
  rw [State.onPort_free h.1, State.goWrite, State.stripWrite_free h.2]
  simp only [State.takeCommand, hr]
  rfl

/-- The arguments the body reads are the latches (R163). -/
@[simp] theorem State.goBase_arg1 (s : State) (code tag : Byte) : (s.goBase code tag).arg1 = s.mailbox[0] := rfl
/-- A2 of a taken command. -/
@[simp] theorem State.goBase_arg2 (s : State) (code tag : Byte) : (s.goBase code tag).arg2 = s.mailbox[1] := rfl
/-- A3 of a taken command. -/
@[simp] theorem State.goBase_arg3 (s : State) (code tag : Byte) : (s.goBase code tag).arg3 = s.mailbox[2] := rfl
/-- The engine state the body reads. -/
@[simp] theorem State.goBase_engineRuns (s : State) (code tag : Byte) :
    (s.goBase code tag).engineRuns = s.engineRuns := rfl
/-- A body that only completes. -/
@[simp] theorem State.goBase_finish (s : State) (code tag : Byte) (r : Result) :
    (s.goBase code tag).finish r = s.completed code tag r := rfl
/-- A body that only goes RUNNING. -/
@[simp] theorem State.goBase_goRunning (s : State) (code tag : Byte) :
    (s.goBase code tag).goRunning = s.wentRunning code tag := rfl

/-! ### Classes of accesses -/

/-- The strip base is n × 0x200000 + 0x1FFC00 bytes (R1), and word w lies 4·w bytes above it. -/
theorem stripAddr_bytes (n : Fin 8) (w : Fin 256) :
    (stripAddr n w).toNat * 4 = n.val * 0x200000 + 0x1FFC00 + w.val * 4 := by
  have hw := w.isLt
  simp only [stripAddr, BitVec.toNat_append, BitVec.toNat_ofFin, BitVec.toNat_ofNat]
  rw [← Nat.shiftLeft_add_eq_or_of_lt (by omega), ← Nat.shiftLeft_add_eq_or_of_lt (by omega)]
  simp only [Nat.shiftLeft_eq]
  omega

/-- The strip word at an address is w exactly when the address is word w's. -/
theorem stripWordOf_eq_some {n : Fin 8} {a : WordAddr} {w : Fin 256} :
    stripWordOf n a = some w ↔ stripAddr n w = a := by
  have key (x : BitVec 14) (y : BitVec 8) : (x ++ y = a) ↔ a.extractLsb' 8 14 = x ∧ a.extractLsb' 0 8 = y := by
    have hx := x.isLt
    have hy := y.isLt
    have ha := a.isLt
    rw [← BitVec.toNat_inj (x := x ++ y), ← BitVec.toNat_inj (x := a.extractLsb' 8 14),
      ← BitVec.toNat_inj (x := a.extractLsb' 0 8), BitVec.toNat_append, ← Nat.shiftLeft_add_eq_or_of_lt hy]
    simp only [BitVec.extractLsb'_toNat, Nat.shiftLeft_eq, Nat.shiftRight_eq_div_pow]
    omega
  unfold stripWordOf stripAddr
  have hk := key ((BitVec.ofFin n : BitVec 3) ++ 0x7FF#11) (BitVec.ofFin w : BitVec 8)
  rw [hk]
  constructor
  · intro h
    split at h
    · rename_i h1
      simp only [Option.some.injEq] at h
      exact ⟨h1, by rw [← h]⟩
    · simp at h
  · rintro ⟨h1, h2⟩
    rw [if_pos h1, h2]

/-- The strip word at a strip word's own address is that word's. -/
theorem stripAddr_of_stripWordOf {n : Fin 8} {a : WordAddr} {w : Fin 256} (h : stripWordOf n a = some w) :
    stripAddr n w = a := stripWordOf_eq_some.1 h

/-- Slot Capture is there when the engine runs and no hardware reset is on. -/
theorem State.captures_of {s : State} (hp : s.portFree) (he : s.engine.state ≠ .transparent) : s.captures = true := by
  simp [State.captures, State.engineRuns_iff.2 he, hp.2]

/-- The class of a mesh port's slot write. -/
theorem State.writeClass_mesh {s : State} {a : WriteAccess} {p : Port} {k : SlotNo} {w : Nat}
    (h : s.meshAt a.initiator a.addr p k w) : s.writeClass a = s.meshWriteClass p k w a.be := by
  obtain ⟨hp, he, hs, hk, hr⟩ := h
  simp [State.writeClass, hs, State.captures_of hp he, hk, hr]

/-- The class of a software slot write. -/
theorem State.writeClass_software {s : State} {a : WriteAccess} {k : SlotNo} {w : Nat}
    (h : s.softwareAt a.initiator a.addr k w) : s.writeClass a = softwareWriteClass k w := by
  obtain ⟨hp, he, hs, hk, hr⟩ := h
  simp [State.writeClass, hs, State.captures_of hp he, hk, hr]

/-- The class of a mesh port's slot read. -/
theorem State.readClass_mesh {s : State} {a : ReadAccess} {p : Port} {k : SlotNo} {w : Nat}
    (h : s.meshAt a.initiator a.addr p k w) : s.readClass a = s.meshReadClass p k w := by
  obtain ⟨hp, he, hs, hk, hr⟩ := h
  simp [State.readClass, hs, State.captures_of hp he, hk, hr]

/-- A header word's offset is its place among words 2..6. -/
theorem headerIx_of (w : HeaderIx) : headerIx (w.val + 2) = some w := by
  have := w.isLt
  simp only [headerIx]
  rw [dif_pos (by omega)]
  simp

/-- The class of a mesh port's header write. -/
theorem State.writeClass_header {s : State} {a : WriteAccess} {p : Port} {k : SlotNo} {w : HeaderIx}
    (h : s.meshAt a.initiator a.addr p k (w.val + 2)) : s.writeClass a = .header p k w := by
  rw [State.writeClass_mesh h, State.meshWriteClass, if_neg (by omega), if_neg (by omega), headerIx_of]

/-- During a hardware reset a write only reaches memory (R158). -/
theorem State.performWrite_reset {s : State} (h : s.inReset = true) (a : WriteAccess) :
    s.performWrite a = s.passing a := by
  unfold State.performWrite State.writeClass
  cases hs : stripWordOf s.bus.position a.addr with
  | some w =>
    simp only [State.anyStripWrite, State.stripWrite_reset h, stripAddr_of_stripWordOf hs]
    rfl
  | none => simp [State.captures, h]

/-- During a hardware reset a read returns memory's data (R158). -/
theorem State.performRead_reset {s : State} (h : s.inReset = true) (a : ReadAccess) :
    s.performRead a = s.readMem a.addr := by
  unfold State.performRead State.readClass State.stripReadClass
  cases hs : stripWordOf s.bus.position a.addr <;> simp [State.captures, h]

end Sys2Proof.Machine
end

