-- ==== Sys2Proof/Laws/Tables.lean ====
section
/-! SUPPORT. Reading one entry of a table after an update, counters, event flags, and what a table search finds. -/

namespace Sys2Proof.Machine

/-! ### One entry after an update -/

/-- The slot written. -/
@[simp] theorem State.slot_setSlot_same (s : State) (k : SlotNo) (r : SlotRecord) : (s.setSlot k r).slot k = r := by
  simp [State.slot]

/-- Another slot. -/
theorem State.slot_setSlot_other (s : State) {j k : SlotNo} (r : SlotRecord) (h : j ≠ k) :
    (s.setSlot k r).slot j = s.slot j := by
  have : k.val ≠ j.val := fun e => h (Fin.ext e.symm)
  simp [State.slot, Vector.getElem_set_ne _ _ this]

/-- The link written. -/
@[simp] theorem State.link_setLink_same (s : State) (i : LinkIx) (l : Link) : (s.setLink i l).link i = l := by
  simp [State.link]

/-- Another link. -/
theorem State.link_setLink_other (s : State) {i j : LinkIx} (l : Link) (h : j ≠ i) :
    (s.setLink i l).link j = s.link j := by
  have : i.val ≠ j.val := fun e => h (Fin.ext e.symm)
  simp [State.link, Vector.getElem_set_ne _ _ this]

/-- The route entry written. -/
@[simp] theorem State.route_setRoute_same (s : State) (i : RouteIx) (e : RouteEntry) : (s.setRoute i e).route i = e := by
  simp [State.route]

/-- Another route entry. -/
theorem State.route_setRoute_other (s : State) {i j : RouteIx} (e : RouteEntry) (h : j ≠ i) :
    (s.setRoute i e).route j = s.route j := by
  have : i.val ≠ j.val := fun h' => h (Fin.ext h'.symm)
  simp [State.route, Vector.getElem_set_ne _ _ this]

/-- The binding written. -/
@[simp] theorem State.binding_setBinding_same (s : State) (p : Port) (b : Binding) :
    (s.setBinding p b).binding p = some b := by simp [State.binding]

/-- Another port's binding. -/
theorem State.binding_setBinding_other (s : State) {p q : Port} (b : Binding) (h : q ≠ p) :
    (s.setBinding p b).binding q = s.binding q := by
  have : p.val ≠ q.val := fun e => h (Fin.ext e.symm)
  simp [State.binding, Vector.getElem_set_ne _ _ this]

/-- The binding dropped. -/
@[simp] theorem State.binding_dropBinding_same (s : State) (p : Port) : (s.dropBinding p).binding p = none := by
  simp [State.binding]

/-- Another port's binding after one is dropped. -/
theorem State.binding_dropBinding_other (s : State) {p q : Port} (h : q ≠ p) :
    (s.dropBinding p).binding q = s.binding q := by
  have : p.val ≠ q.val := fun e => h (Fin.ext e.symm)
  simp [State.binding, Vector.getElem_set_ne _ _ this]

/-! ### Counters -/

/-- A count as an update of the vector of counters. -/
theorem State.count_eq (s : State) (c : Counter) : s.count c = { s with counters := countedAt s.counters c.ix } := rfl

/-- A count leaves every counter within 65535 (R174). -/
theorem State.counter_count_le (s : State) (c d : Counter) (h : s.counter d ≤ 65535) :
    (s.count c).counter d ≤ 65535 := by
  by_cases e : c.ix.val = d.ix.val
  · simp only [State.counter, State.count_counters, ← e, Vector.getElem_set_self]
    omega
  · simp only [State.counter, State.count_counters, Vector.getElem_set_ne _ _ e]
    exact h

/-! ### Event flags -/

/-- A raised source is pending. -/
@[simp] theorem State.pendingOf_raise_same (s : State) (e : EventSource) : (s.raise e).pendingOf e = true := by
  simp [State.pendingOf, EventUnit.at, EventUnit.put]

/-- The sources' places differ. -/
theorem EventSource.ix_inj {e f : EventSource} (h : e.ix = f.ix) : e = f := by
  cases e <;> cases f <;> first | rfl | (exact absurd h (by decide))

/-- Another source's flags after a raise. -/
theorem State.pendingOf_raise_other (s : State) {e f : EventSource} (h : f ≠ e) :
    (s.raise e).pendingOf f = s.pendingOf f := by
  have : e.ix.val ≠ f.ix.val := fun h' => h (EventSource.ix_inj (Fin.ext h'.symm))
  simp [State.pendingOf, EventUnit.at, EventUnit.put, Vector.getElem_set_ne _ _ this]

/-- A source's flag after a raise. -/
theorem State.pendingOf_raise (s : State) (e f : EventSource) :
    (s.raise e).pendingOf f = (s.pendingOf f || decide (f = e)) := by
  by_cases h : f = e
  · subst h; simp
  · rw [State.pendingOf_raise_other s h]; simp [h]

/-- A source's flag after a conditional raise. -/
theorem State.pendingOf_raiseIf (s : State) (c : Bool) (e f : EventSource) :
    (s.raiseIf c e).pendingOf f = (s.pendingOf f || (c && decide (f = e))) := by
  unfold State.raiseIf
  cases c
  · simp
  · simp [State.pendingOf_raise]

/-- A conditional raise changes nothing but the event unit. -/
theorem State.raiseIf_eq (s : State) (c : Bool) (e : EventSource) :
    s.raiseIf c e = { s with events := (s.raiseIf c e).events } := by
  unfold State.raiseIf
  cases c <;> rfl

/-! ### Searches -/

/-- What the link lookup finds: a non-FREE entry of that node and port (R65). -/
theorem State.findLink_some {s : State} {n : LinkName} {i : LinkIx} (h : s.findLink n = some i) :
    (s.link i).state ≠ .free ∧ (s.link i).node = n.node ∧ (s.link i).port = n.port ∧ notANode n.node = false := by
  unfold State.findLink at h
  split at h
  · cases h
  · rename_i hn
    have := List.find?_some h
    simp only [Bool.and_eq_true, bne_iff_ne, ne_eq, beq_iff_eq] at this
    exact ⟨this.1.1, this.1.2, this.2, by simpa using hn⟩

/-- The link lookup finds nothing: no non-FREE entry has that node and port, or the node names no link. -/
theorem State.findLink_none {s : State} {n : LinkName} (h : s.findLink n = none) :
    notANode n.node = true ∨
    ∀ i, (s.link i).state ≠ .free → ¬((s.link i).node = n.node ∧ (s.link i).port = n.port) := by
  unfold State.findLink at h
  split at h
  · rename_i hn; exact Or.inl hn
  · right
    intro i hs hb
    have := List.find?_eq_none.mp h i (List.mem_finRange i)
    simp [hs, hb.1, hb.2] at this

/-- The lookup depends on the neighbour table alone. -/
theorem State.findLink_congr {s t : State} (h : t.links = s.links) (n : LinkName) : t.findLink n = s.findLink n := by
  simp only [State.findLink, State.link, h]

/-- The destination match depends on the route table alone. -/
theorem State.findRoute_congr {s t : State} (h : t.routes = s.routes) (d : Node) : t.findRoute d = s.findRoute d := by
  simp only [State.findRoute, State.route, h]

/-- What the destination match finds: an entry in use for it (R97). -/
theorem State.findRoute_some {s : State} {d : Node} {i : RouteIx} (h : s.findRoute d = some i) :
    (s.route i).state ≠ .empty ∧ (s.route i).dest = d := by
  have := List.find?_some h
  simpa using this

/-- The destination match finds nothing: no entry is in use for it. -/
theorem State.findRoute_none {s : State} {d : Node} (h : s.findRoute d = none) (i : RouteIx)
    (hi : (s.route i).state ≠ .empty) : (s.route i).dest ≠ d := by
  have := List.find?_eq_none.mp h i (List.mem_finRange i)
  simp only [Bool.and_eq_true, bne_iff_ne, ne_eq, beq_iff_eq, not_and] at this
  exact this hi

/-- The stale-link flag depends on the neighbour table alone. -/
theorem State.staleFlag_congr {s t : State} (h : t.links = s.links) (n : LinkName) : t.staleFlag n = s.staleFlag n := by
  simp only [State.staleFlag, State.findLink_congr h, State.link, h]

/-- The states in which a link is estimated (Table 2 of chapter 4). -/
theorem LinkState.estimated_iff (l : LinkState) : l.estimated = true ↔ heardState l := by
  cases l <;> simp [LinkState.estimated, heardState]

/-- A link that is not FREE and not estimated is LOST or PURGING. -/
theorem LinkState.not_estimated {l : LinkState} (h : l ≠ .free) : l.estimated = false ↔ l.dying = true := by
  cases l <;> simp_all [LinkState.estimated, LinkState.dying]

end Sys2Proof.Machine
end

