-- ==== Sys2Proof/Laws/Operations.lean ====
section
/-! SUPPORT. What each shared operation can change: one equation per operation, which says that every field it does not name stays.
Provers cite these in place of unfolding the operation. -/

namespace Sys2Proof.Machine

/-- A walk's beginning changes the walker alone. -/
theorem State.beginWalk_eq (s : State) :
    s.beginWalk = { s with walker := (s.beginWalk).walker } := by
  unfold State.beginWalk
  try dsimp only
  repeat' (split <;> try dsimp only)
  all_goals rfl

/-- A refresh request changes the walker alone. -/
theorem State.requestRefresh_eq (s : State) :
    s.requestRefresh = { s with walker := (s.requestRefresh).walker } := by
  unfold State.requestRefresh State.beginWalk
  try dsimp only
  repeat' (split <;> try dsimp only)
  all_goals rfl

/-- A flush request changes the walker alone. -/
theorem State.requestFlush_eq (s : State) :
    s.requestFlush = { s with walker := (s.requestFlush).walker } := by
  unfold State.requestFlush State.beginWalk
  try dsimp only
  repeat' (split <;> try dsimp only)
  all_goals rfl

/-- A change of a link sets its entry and may raise LINK-UP or LINK-DOWN. -/
theorem State.changeLink_eq (s : State) (i : LinkIx) (l : Link) :
    s.changeLink i l = { s with events := (s.changeLink i l).events, links := s.links.set i.val l } := by
  unfold State.changeLink State.raiseIf
  try dsimp only
  repeat' (split <;> try dsimp only)
  all_goals rfl

/-- A completion writes the result, goes IDLE and raises COMMAND-DONE. -/
theorem State.completeRunning_eq (s : State) (r : Result) :
    s.completeRunning r = { s with events := (s.completeRunning r).events, command := { s.command with running := false, result := r } } := by
  unfold State.completeRunning
  try dsimp only
  repeat' (split <;> try dsimp only)
  all_goals rfl

/-- The release of a landing write changes memory and the held access. -/
theorem State.releaseLanding_eq (s : State) (b : Byte) :
    s.releaseLanding b = { s with mem := (s.releaseLanding b).mem, bus := (s.releaseLanding b).bus } := by
  unfold State.releaseLanding
  try dsimp only
  repeat' (split <;> try dsimp only)
  all_goals rfl

/-- An unaltered release changes memory and the tap. -/
theorem State.releaseUnaltered_eq (s : State) :
    s.releaseUnaltered = { s with mem := (s.releaseUnaltered).mem, bus := (s.releaseUnaltered).bus } := by
  unfold State.releaseUnaltered
  try dsimp only
  repeat' (split <;> try dsimp only)
  all_goals rfl

/-- An outcome joins the queue, or is counted and raised. -/
theorem State.appendOutcome_eq (s : State) (o : OutcomeEntry) :
    s.appendOutcome o = { s with outcomes := (s.appendOutcome o).outcomes, counters := (s.appendOutcome o).counters, events := (s.appendOutcome o).events } := by
  unfold State.appendOutcome
  try dsimp only
  repeat' (split <;> try dsimp only)
  all_goals rfl

/-- An outcome changes the neighbour table alone. -/
theorem State.applyOutcome_eq (s : State) (o : OutcomeEntry) :
    s.applyOutcome o = { s with links := (s.applyOutcome o).links } := by
  unfold State.applyOutcome
  try dsimp only
  repeat' (split <;> try dsimp only)
  all_goals rfl

/-- An outcome job changes the queue and the neighbour table. -/
theorem State.outcomeJob_eq (s : State) :
    s.outcomeJob = { s with outcomes := (s.outcomeJob).outcomes, links := (s.outcomeJob).links } := by
  unfold State.outcomeJob State.applyOutcome
  try dsimp only
  repeat' (split <;> try dsimp only)
  all_goals rfl

/-- A frame's link update changes the neighbour table alone. -/
theorem State.updateLinkFromFrame_eq (s : State) (n : LinkName) (x : Int) (r : Fin 8) :
    s.updateLinkFromFrame n x r = { s with links := (s.updateLinkFromFrame n x r).links } := by
  unfold State.updateLinkFromFrame
  try dsimp only
  repeat' (split <;> try dsimp only)
  all_goals rfl

/-- A hello changes the neighbour table, or counts and raises a full table. -/
theorem State.takeHello_eq (s : State) (n : LinkName) (x : Int) (q : Half) :
    s.takeHello n x q = { s with links := (s.takeHello n x q).links, counters := (s.takeHello n x q).counters, events := (s.takeHello n x q).events } := by
  unfold State.takeHello
  try dsimp only
  repeat' (split <;> try dsimp only)
  all_goals rfl

/-- A sweep is requested, or an overrun counted and raised. -/
theorem State.requestSweep_eq (s : State) :
    s.requestSweep = { s with metric := (s.requestSweep).metric, counters := (s.requestSweep).counters, events := (s.requestSweep).events } := by
  unfold State.requestSweep
  try dsimp only
  repeat' (split <;> try dsimp only)
  all_goals rfl

/-- Wanted-list aging. -/
theorem State.ageWanted_eq (s : State) :
    s.ageWanted = { s with events := (s.ageWanted).events, wanted := s.wanted.map (WantedEntry.aged s.settings.waitLimit) } := by
  unfold State.ageWanted State.raiseIf
  try dsimp only
  repeat' (split <;> try dsimp only)
  all_goals rfl

/-- A settle sample changes the engine and may raise STATE-CHANGE. -/
theorem State.settleSample_eq (s : State) :
    s.settleSample = { s with engine := (s.settleSample).engine, events := (s.settleSample).events } := by
  unfold State.settleSample
  try dsimp only
  repeat' (split <;> try dsimp only)
  all_goals rfl

/-- A sweep visit changes the neighbour table, link events and the walker. -/
theorem State.visitLink_eq (s : State) (i : LinkIx) :
    s.visitLink i = { s with links := (s.visitLink i).links, events := (s.visitLink i).events, walker := (s.visitLink i).walker } := by
  unfold State.visitLink State.changeLink State.raiseIf State.mergeEvict State.beginWalk
  try dsimp only
  repeat' (split <;> try dsimp only)
  all_goals rfl

/-- The purge of a pair changes the neighbour table, link events and the evict set. -/
theorem State.purgeLink_eq (s : State) (n : LinkName) :
    s.purgeLink n = { s with links := (s.purgeLink n).links, events := (s.purgeLink n).events, walker := (s.purgeLink n).walker } := by
  unfold State.purgeLink State.changeLink State.raiseIf State.mergeEvict
  try dsimp only
  repeat' (split <;> try dsimp only)
  all_goals rfl

/-- The ROUTE-FOUND report changes the wanted list and the events. -/
theorem State.reportFound_eq (s : State) (e f : RouteEntry) :
    s.reportFound e f = { s with wanted := (s.reportFound e f).wanted, events := (s.reportFound e f).events } := by
  unfold State.reportFound
  try dsimp only
  repeat' (split <;> try dsimp only)
  all_goals rfl

/-- The GATEWAY-CHANGE report changes the events alone. -/
theorem State.reportGateway_eq (s : State) (e f : RouteEntry) :
    s.reportGateway e f = { s with events := (s.reportGateway e f).events } := by
  unfold State.reportGateway State.raiseIf
  try dsimp only
  repeat' (split <;> try dsimp only)
  all_goals rfl

/-- A selection stores the selected entry and makes its reports. -/
theorem State.reselect_eq (s : State) (i : RouteIx) (e : RouteEntry) :
    s.reselect i e = { s with wanted := (s.reselect i e).wanted, events := (s.reselect i e).events, routes := s.routes.set i.val (s.selected e) } := by
  unfold State.reselect State.reportFound State.reportGateway State.raiseIf
  try dsimp only
  repeat' (split <;> try dsimp only)
  all_goals rfl

/-- An emptied entry. -/
theorem State.emptyEntry_eq (s : State) (i : RouteIx) (e : RouteEntry) :
    s.emptyEntry i e = { s with events := (s.emptyEntry i e).events, routes := s.routes.set i.val RouteEntry.empty } := by
  unfold State.emptyEntry State.raiseIf
  try dsimp only
  repeat' (split <;> try dsimp only)
  all_goals rfl

/-- A wanted-list request changes the list alone. -/
theorem State.requestWanted_eq (s : State) (d : Node) :
    s.requestWanted d = { s with wanted := (s.requestWanted d).wanted } := by
  unfold State.requestWanted
  try dsimp only
  repeat' (split <;> try dsimp only)
  all_goals rfl

/-- A walk's visit changes the route table, the wanted list and the events. -/
theorem State.walkEntry_eq (s : State) (w : Walk) :
    s.walkEntry w = { s with routes := (s.walkEntry w).routes, wanted := (s.walkEntry w).wanted, events := (s.walkEntry w).events } := by
  unfold State.walkEntry State.emptyEntry State.reselect State.reportFound State.reportGateway State.raiseIf
  try dsimp only
  repeat' (split <;> try dsimp only)
  all_goals rfl

/-- Recording a verdict changes the slot table alone. -/
theorem State.recordVerdict_eq (s : State) (l : Landing) (v : Verdict) :
    s.recordVerdict l v = { s with slots := (s.recordVerdict l v).slots } := by
  unfold State.recordVerdict
  try dsimp only
  repeat' (split <;> try dsimp only)
  all_goals rfl

/-- What a slot was doing ends: counters and bindings. -/
theorem State.endForFill_eq (s : State) (k : SlotNo) :
    s.endForFill k = { s with counters := (s.endForFill k).counters, overlay := (s.endForFill k).overlay } := by
  unfold State.endForFill State.dropPassBinding
  try dsimp only
  repeat' (split <;> try dsimp only)
  all_goals rfl

/-- An abandoned fill. -/
theorem State.abandonOther_eq (s : State) (p : Port) (k : SlotNo) :
    s.abandonOther p k = { s with slots := (s.abandonOther p k).slots, counters := (s.abandonOther p k).counters } := by
  unfold State.abandonOther
  try dsimp only
  repeat' (split <;> try dsimp only)
  all_goals rfl

/-- A software header write changes the slot table alone. -/
theorem State.softwareHeader_eq (s : State) (k : SlotNo) (w : HeaderIx) (d : Word) (be : Enables) :
    s.softwareHeader k w d be = { s with slots := (s.softwareHeader k w d be).slots } := by
  unfold State.softwareHeader
  try dsimp only
  repeat' (split <;> try dsimp only)
  all_goals rfl

/-- A matched outcome. -/
theorem State.takeOutcome_eq (s : State) (k : SlotNo) (d : Word) :
    s.takeOutcome k d = { s with slots := (s.takeOutcome k d).slots, outcomes := (s.takeOutcome k d).outcomes, counters := (s.takeOutcome k d).counters, events := (s.takeOutcome k d).events } := by
  unfold State.takeOutcome State.appendOutcome
  try dsimp only
  repeat' (split <;> try dsimp only)
  all_goals rfl

/-- An outcome deadline's expiry. -/
theorem State.expireDeadline_eq (s : State) (k : SlotNo) :
    s.expireDeadline k = { s with now := (s.expireDeadline k).now, slots := (s.expireDeadline k).slots, counters := (s.expireDeadline k).counters } := by
  unfold State.expireDeadline
  try dsimp only
  repeat' (split <;> try dsimp only)
  all_goals rfl

/-- What a slot was doing ends for a transmit pass. -/
theorem State.endForSend_eq (s : State) (k : SlotNo) :
    s.endForSend k = { s with counters := (s.endForSend k).counters, overlay := (s.endForSend k).overlay } := by
  unfold State.endForSend State.dropPassBinding
  try dsimp only
  repeat' (split <;> try dsimp only)
  all_goals rfl

/-- A superseded pass. -/
theorem State.supersedeOther_eq (s : State) (p : Port) (k : SlotNo) :
    s.supersedeOther p k = { s with slots := (s.supersedeOther p k).slots, counters := (s.supersedeOther p k).counters, overlay := (s.supersedeOther p k).overlay } := by
  unfold State.supersedeOther
  try dsimp only
  repeat' (split <;> try dsimp only)
  all_goals rfl

/-- A binding and the sent link of its slot. -/
theorem State.bindPass_eq (s : State) (p : Port) (b : Binding) :
    s.bindPass p b = { s with slots := (s.bindPass p b).slots, overlay := (s.bindPass p b).overlay } := by
  unfold State.bindPass
  try dsimp only
  repeat' (split <;> try dsimp only)
  all_goals rfl

/-- An own sequence advances. -/
theorem State.advanceSequence_eq (s : State) (t : Treatment) :
    s.advanceSequence t = { s with overlay := (s.advanceSequence t).overlay } := by
  cases t <;> rfl

/-- A claim read. -/
theorem State.claim_eq (s : State) :
    s.claim = { s with bus := (s.claim).bus, events := (s.claim).events } := by
  unfold State.claim
  try dsimp only
  repeat' (split <;> try dsimp only)
  all_goals rfl

/-- A complete write's effect. -/
theorem State.completeSource_eq (s : State) (n : Nat) :
    s.completeSource n = { s with events := (s.completeSource n).events } := by
  unfold State.completeSource
  try dsimp only
  repeat' (split <;> try dsimp only)
  all_goals rfl

/-! ### Counting a list of counters -/

/-- Counting in a list of counters changes the counters alone. -/
theorem State.countAll_eq (s : State) (cs : List Counter) :
    s.countAll cs = { s with counters := cs.foldl (fun v c => countedAt v c.ix) s.counters } := by
  unfold State.countAll
  induction cs generalizing s with
  | nil => rfl
  | cons c cs ih => simp only [List.foldl_cons, ih]; rfl

/-! ### Releases -/

/-- A held landing write is released with its byte replaced (R23, R36). -/
theorem State.releaseLanding_held {s : State} {a : WordAddr} {d : Word} {be : Enables} {n : LinkName}
    (h : s.bus.held = some (.landing a d be n)) (b : Byte) :
    s.releaseLanding b =
      { s with bus := { s.bus with held := none }, mem := s.mem.writeWord a (withVerdictByte d b) be } := by
  simp only [State.releaseLanding, h]; rfl

/-- With no access held a release does nothing. -/
theorem State.releaseLanding_none {s : State} (h : s.bus.held = none) (b : Byte) : s.releaseLanding b = s := by
  simp only [State.releaseLanding, h]

/-- With no access held nothing is released unaltered. -/
theorem State.releaseUnaltered_none {s : State} (h : s.bus.held = none) : s.releaseUnaltered = s := by
  simp only [State.releaseUnaltered, h]

/-- A release keeps the canonical form of memory. -/
theorem State.releaseLanding_wf {s : State} (b : Byte) (h : Memory.wf s.mem) : Memory.wf (s.releaseLanding b).mem := by
  unfold State.releaseLanding
  split
  · exact Memory.writeWord_wf _ _ _ h
  · exact h

/-- An unaltered release keeps the canonical form of memory. -/
theorem State.releaseUnaltered_wf {s : State} (h : Memory.wf s.mem) : Memory.wf s.releaseUnaltered.mem := by
  unfold State.releaseUnaltered
  split
  · exact h
  · exact Memory.writeWord_wf _ _ _ h
  · exact h

/-- Memory after a power-on reset is canonical. -/
theorem State.reset_mem_wf : Memory.wf State.reset.mem := by
  refine ⟨List.Pairwise.nil, ?_⟩
  intro c h
  cases h

/-! ### Verdicts -/

/-- A decided verdict of a landing whose write is not held: counted and recorded. -/
theorem State.announce_unheld {s : State} {l : Landing} (h : l.held = false) (v : Verdict) :
    s.announce l v = (s.countAll (verdictCounters v.code v.reason)).recordVerdict l v := by
  simp [State.announce, h]

/-- A decided verdict changes slots, counters, memory and the held access alone. -/
theorem State.announce_eq (s : State) (l : Landing) (v : Verdict) :
    s.announce l v =
      { s with
        slots := (s.announce l v).slots, counters := (s.announce l v).counters, mem := (s.announce l v).mem
        bus := (s.announce l v).bus } := by
  unfold State.announce
  rw [State.countAll_eq]
  unfold State.recordVerdict State.releaseLanding
  dsimp only
  repeat' (split <;> try dsimp only)
  all_goals rfl

/-- The end of a computation changes those and the computation in progress. -/
theorem State.conclude_eq (s : State) (l : Landing) (v : Verdict) :
    s.conclude l v =
      { s with
        slots := (s.conclude l v).slots, counters := (s.conclude l v).counters, mem := (s.conclude l v).mem
        bus := (s.conclude l v).bus, verdicts := { s.verdicts with work := none } } := by
  unfold State.conclude
  rw [State.announce_eq]

/-- A computation that ends leaves none in progress (R42). -/
theorem State.conclude_work (s : State) (l : Landing) (v : Verdict) : (s.conclude l v).verdicts.work = none := by
  rw [State.conclude_eq]

/-- A decided verdict keeps the canonical form of memory. -/
theorem State.announce_wf {s : State} (l : Landing) (v : Verdict) (h : Memory.wf s.mem) :
    Memory.wf (s.announce l v).mem := by
  unfold State.announce
  rw [State.countAll_eq]
  have hr : ∀ t : State, (t.recordVerdict l v).mem = t.mem := fun t => by rw [State.recordVerdict_eq]
  split
  · exact State.releaseLanding_wf _ (by rw [hr]; exact h)
  · rw [hr]; exact h

/-- The end of a computation keeps the canonical form of memory. -/
theorem State.conclude_wf {s : State} (l : Landing) (v : Verdict) (h : Memory.wf s.mem) :
    Memory.wf (s.conclude l v).mem := State.announce_wf l v h

/-! ### The walker's beginning -/

/-- With a walk in progress none begins. -/
theorem State.beginWalk_walking {s : State} {w : Walk} (h : s.walker.walk = some w) : s.beginWalk = s := by
  simp [State.beginWalk, h]

/-- In TRANSPARENT no walk begins. -/
theorem State.beginWalk_transparent {s : State} (h : s.engine.state = .transparent) : s.beginWalk = s := by
  simp [State.beginWalk, State.engineRuns, h]

/-- With no pending work no walk begins. -/
theorem State.beginWalk_idle {s : State} (h : s.walker.hasWork = false) : s.beginWalk = s := by
  simp [State.beginWalk, h]

/-- A walk that begins takes all the pending work (R122). -/
theorem State.beginWalk_begins {s : State} (h : s.walker.walk = none) (hw : s.walker.hasWork = true)
    (he : s.engine.state ≠ .transparent) :
    s.beginWalk =
      { s with
        walker :=
          { refresh := false, flush := false, evict := []
            walk :=
              some { refresh := s.walker.refresh, flush := s.walker.flush, evict := s.walker.evict, next := 0 } } } := by
  simp [State.beginWalk, State.engineRuns, h, hw, he]

/-- Which indexes a merged evict set holds (R121). -/
theorem mem_addEvict (es : List LinkIx) (i j : LinkIx) : j ∈ addEvict es i ↔ j ∈ es ∨ j = i := by
  unfold addEvict
  split
  · rename_i h
    constructor
    · exact Or.inl
    · rintro (h' | h')
      · exact h'
      · rw [h']; exact h
  · simp

/-- Which indexes a set merged with a list holds. -/
theorem mem_foldl_addEvict (is es : List LinkIx) (j : LinkIx) :
    j ∈ is.foldl addEvict es ↔ j ∈ es ∨ j ∈ is := by
  induction is generalizing es with
  | nil => simp
  | cons i is ih =>
    rw [List.foldl_cons, ih, mem_addEvict, List.mem_cons]
    constructor
    · rintro ((h | h) | h)
      · exact Or.inl h
      · exact Or.inr (Or.inl h)
      · exact Or.inr (Or.inr h)
    · rintro (h | h | h)
      · exact Or.inl (Or.inl h)
      · exact Or.inl (Or.inr h)
      · exact Or.inr h

/-! ### The arbiter -/

/-- A granted step: no hardware reset is on, and the requester has a request (R99). -/
theorem State.granted_requests {s : State} {r : Requester} (h : s.granted r = true) :
    s.inReset = false ∧ s.requests r = true := by
  simp only [State.granted, Bool.and_eq_true, Bool.not_eq_true'] at h
  exact ⟨h.1.1, h.1.2⟩

/-- While storage has gone to a requester no other is granted (R104). -/
theorem State.granted_holder {s : State} {r h : Requester} (hg : s.granted r = true) (hh : s.storageHolder = some h) :
    r = h := by
  simp only [State.granted, hh, Bool.and_eq_true, beq_iff_eq] at hg
  exact hg.2.symm

/-- A granted step with storage free: no waiting request has a higher class (R99). -/
theorem State.granted_class {s : State} {r : Requester} (h : s.granted r = true) (hf : s.storageHolder = none)
    (q : Requester) (hq : s.requests q = true) : s.arbClass r ≤ s.arbClass q := by
  simp only [State.granted, hf, Bool.and_eq_true, List.all_eq_true] at h
  have := h.2 q (by cases q <;> simp)
  simpa [hq] using this

/-- Walker steps are granted only with a walk in progress. -/
theorem State.granted_walker {s : State} (h : s.granted .walker = true) : ∃ w, s.walker.walk = some w := by
  have := (State.granted_requests h).2
  exact Option.isSome_iff_exists.1 (by simpa [State.requests, State.otherRequests, State.walkerRequests] using this)

/-- Steps of verdict work are granted only with a computation in progress, and not while storage has gone elsewhere. -/
theorem State.granted_verdict {s : State} (h : s.granted .verdict = true) :
    (∃ w, s.verdicts.work = some w) ∧ s.storageHolder = none := by
  have := (State.granted_requests h).2
  simp only [State.requests, State.verdictRequests, if_true, Bool.and_eq_true, Option.isNone_iff_eq_none,
    Option.isSome_iff_exists] at this
  exact this

/-- Storage has gone to a requester only while a choosing step waits behind that requester's request (R104). -/
theorem State.storageHolder_some {s : State} {h : Requester} (hh : s.storageHolder = some h) :
    (∃ l m p i, s.verdicts.work = some { landing := l, phase := .choosing m p i (some h) }) ∧
    s.otherRequests h = true := by
  unfold State.storageHolder at hh
  split at hh
  · rename_i l m p i f hw
    obtain ⟨a, b⟩ := Option.filter_eq_some_iff.1 hh
    exact ⟨⟨l, m, p, i, by rw [hw, a]⟩, b⟩
  · cases hh

/-- What another requester's step leaves of the verdict work: the choosing step is requested (R104). -/
theorem State.afterOtherStep_eq (s : State) :
    s.afterOtherStep = { s with verdicts := { s.verdicts with work := s.afterOtherStep.verdicts.work } } := rfl

/-! ### The resets -/

/-- The work that a reset's beginning discards, with no access held (R158, log 19). -/
theorem State.discardWork_free {s : State} (h : s.bus.held = none) :
    s.discardWork =
      { s with
        slots := Vector.replicate 512 SlotRecord.vacant, verdicts := VerdictUnit.reset
        overlay := { s.overlay with bindings := Vector.replicate 3 none } } := by
  unfold State.discardWork
  rw [State.releaseUnaltered_none h]
  rfl

/-- The end of a hardware reset: every block at its reset value (Table 2 of chapter 9). -/
theorem State.endReset_eq (s : State) (straps : Fin 8) (c : ResetCause) :
    s.endReset straps c =
      { State.reset with
        pending := s.pending, now := s.now, mem := s.mem
        bus := { BusTap.reset straps with readData := s.bus.readData }
        cause := c } := rfl

/-! ### The search over all slots

The two searches run over 512 slots: cite these cases, or `unfold`, and never let `simp` evaluate the search. -/

/-- No other slot of the port is FILLING (R10). -/
theorem State.abandonOther_none {s : State} {p : Port} {k : SlotNo} (h : s.otherFilling p k = none) :
    s.abandonOther p k = s := by
  unfold State.abandonOther; rw [h]
/-- The other FILLING slot of the port is abandoned (R10). -/
theorem State.abandonOther_some {s : State} {p : Port} {k t : SlotNo} (h : s.otherFilling p k = some t) :
    s.abandonOther p k = (s.setSlot t SlotRecord.vacant).count .abandoned := by
  unfold State.abandonOther; rw [h]
/-- No other slot of the port is IN_SEND (R17). -/
theorem State.supersedeOther_none {s : State} {p : Port} {k : SlotNo} (h : s.otherInSend p k = none) :
    s.supersedeOther p k = s := by
  unfold State.supersedeOther; rw [h]
/-- The other pass of the port ends (R17). -/
theorem State.supersedeOther_some {s : State} {p : Port} {k t : SlotNo} (h : s.otherInSend p k = some t) :
    s.supersedeOther p k =
      ((s.setSlot t ((s.slot t).passEnded s.newDeadline)).dropBinding p).count .abandoned := by
  unfold State.supersedeOther; rw [h]

end Sys2Proof.Machine
end

