-- ==== Sys2Proof/Tests/Slice0.lean ====
section
/-! SUPPORT. Tests: terms that the checks of WellFormed refuse, the worked examples of the spec, and for every statement that has
hypotheses a concrete state and operands that meet them together, clause by clause. -/

namespace Sys2Proof.Tests

open Sys2Proof.Machine

set_option Elab.async false

/-! ### Small states -/

/-- A go write by initiator 0 with tag AB hex. -/
abbrev go : GoAccess := { initiator := 0, tag := 0xAB }

/-- The state after a command, or the state itself where the command stops (none does). -/
abbrev after (c : Instr) (s : State) : State :=
  match exec c s with
  | .next t => t
  | _ => s

/-- Initiator 0 SOFTWARE, 1 to 3 the mesh ports, and one region of 8 slots of 512 bytes at 40000 hex. -/
abbrev tap : BusTap :=
  { BusTap.reset 0 with
    roles := #v[.software, .mesh 0, .mesh 1, .mesh 2, .ignored, .ignored, .ignored, .ignored]
    regions := #v[some { base := 0x040000, sizeCode := 0, count := 8 }, none, none, none] }

/-- Configured, in TRANSPARENT, own node 9. -/
abbrev idle : State :=
  { State.reset with bus := tap, identity := { ownNode := 9, realmSeed := 0xBEEF } }

/-- A neighbour entry. -/
abbrev neighbour (st : LinkState) (n : Node) (p : Port) : Link :=
  { Link.free with state := st, node := n, port := p, cost := 125 }

/-- LIVE, WEAK, LOST and PURGING neighbours 5, 6, 7 and 8. -/
abbrev neighbours : Vector Link 32 :=
  (((Vector.replicate 32 Link.free |>.set 0 (neighbour .live 5 0)).set 1 (neighbour .weak 6 1)).set 2
    (neighbour .lost 7 2)).set 3 (neighbour .purging 8 0)

/-- FORWARDING, with the neighbours. -/
abbrev busy : State :=
  { idle with
    engine := { state := .forwarding, settle := 5, nextExpiry := some 200 }, now := 100, links := neighbours }

/-- The same in LEARNING, one sample before FORWARDING. -/
abbrev learning : State := { busy with engine := { state := .learning, settle := 4, nextExpiry := some 200 } }

/-- RESET is low. -/
abbrev inert : State := { busy with bus := { tap with resetLow := true } }

/-- A power-on reset whose supplies are not stable yet, and one that a low RESET line carries on. -/
abbrev powering (phase : PowerPhase) (low : Bool) : State := { busy with bus := { tap with power := phase, resetLow := low } }

/-- A1 and A2 latched. -/
abbrev args (s : State) (a1 a2 : Word) : State := { s with mailbox := #v[a1, a2, 0, 0, 0, 0] }

/-- The command engine RUNNING a code with its arguments. -/
abbrev running (s : State) (code : Byte) (a1 a2 : Word) : State :=
  { s with
    command := { code := code, tag := 1, tagPresent := true, running := true, result := .unknown, args := #v[a1, a2, 0] } }

/-- One slot's record. -/
abbrev withSlot (s : State) (k : SlotNo) (r : SlotRecord) : State :=
  { s with slots := s.slots.set k.val r }

/-- One route entry. -/
abbrev withRoute (s : State) (i : RouteIx) (e : RouteEntry) : State := { s with routes := s.routes.set i.val e }

/-- The address of a word of a slot. -/
abbrev at_ (k : SlotNo) (w : Nat) : WordAddr := BitVec.ofNat 22 (0x10000 + 128 * k.val + w)

/-- A write to a slot word. -/
abbrev put (i : Initiator) (k : SlotNo) (w : Nat) (d : Word) (be : Enables) : WriteAccess :=
  { initiator := i, addr := at_ k w, data := d, be := be }

/-- A read of a slot word. -/
abbrev get (i : Initiator) (k : SlotNo) (w : Nat) : ReadAccess := { initiator := i, addr := at_ k w, be := 0xF }

/-- A captured header with its check right for the realm. -/
abbrev header (w2 w3 w4 w5 : Word) : HeaderWords :=
  #v[w2, w3, w4, w5, (headerCheck 0xBEEF w3 w4 w5 0).zeroExtend 32]

/-- All words complete. -/
abbrev whole : HeaderMarks := Vector.replicate 5 0xF#4

/-- Slot being filled by port 0. -/
abbrev filling (h : HeaderWords) : SlotRecord :=
  { SlotRecord.vacant with state := .filling, source := some .received, passPort := some 0, words := h, marks := whole }

/-- Slot with a landed frame. -/
abbrev landed (h : HeaderWords) : SlotRecord :=
  { SlotRecord.vacant with state := .landed, source := some .received, landingPort := some 0, words := h, marks := whole }

/-- Slot in a transmit pass of port 0. -/
abbrev inSend (h : HeaderWords) : SlotRecord := { landed h with state := .inSend, passPort := some 0 }

/-- Slot that awaits the outcome of a pass of port 0 at time 130. -/
abbrev awaiting (sent : Option LinkName) : SlotRecord :=
  { landed (Vector.replicate 5 0) with
    state := .awaitingOutcome, passPort := some 0, deadline := some 130, sentLink := sent }

/-- A notice from node 20 by way of neighbour 5: sequence 7, stamp 300, budget 3. -/
abbrev notice : HeaderWords := header 0x0005FFFF 0x20030007 0x00140000 0x012C0000

/-- Data from node 20 by way of neighbour 5 for node `d`. -/
abbrev dataFor (d : Half) : HeaderWords := header 0x00050009 0x00030007 (0x0014#16 ++ d) 0

/-- A hello of neighbour 5. -/
abbrev hello : HeaderWords := header 0x0005FFFF 0x10010003 0x00050000 0x00000014

/-- A landing of a header on port 0 in slot 0, its write not held. -/
abbrev landingIn (h : HeaderWords) : Landing := landingOf 0 0 h whole 0x00140000 0xC

/-- The computation in progress. -/
abbrev working (s : State) (l : Landing) (ph : WorkPhase) : State :=
  { s with verdicts := { s.verdicts with work := some { landing := l, phase := ph } } }

/-- A route to node 20 over link 0. -/
abbrev route20 : RouteEntry :=
  { RouteEntry.empty with
    state := .active, dest := 20, latest := some 6, gateway := true, primary := some { link := 0, total := 425 }
    candidates := [{ link := 0, stamp := 300, heard := 6 }] }

/-! ### Terms that the checks of WellFormed refuse -/

/-- A go word with all enables set is no stray go write. -/
theorem test_stray_refuses_go_form : (Instr.strayGoWrite 0 0x6E2D5004 0xF).wellFormed = false := by decide
/-- With a clear enable it is one. -/
theorem test_stray_accepts_clear_enable : (Instr.strayGoWrite 0 0x6E2D5004 0x7).wellFormed = true := by decide
/-- A listed code is no unknown command. -/
theorem test_unknown_refuses_listed_code : (Instr.unknownCommand go 0x35).wellFormed = false := by decide
/-- Code 0 is unknown. -/
theorem test_unknown_accepts_code_0 : (Instr.unknownCommand go 0x00).wellFormed = true := by decide
/-- A complete write needs byte 3. -/
theorem test_complete_refuses_byte_3_clear : (Instr.completeWrite 0 4 0xE).wellFormed = false := by decide
/-- Strip words 0 to 6 act on the part. -/
theorem test_window_refuses_word_6 : (Instr.reportWindowWrite 0 6 0 0xF).wellFormed = false := by decide
/-- The claim word with byte 3 enabled is a complete write. -/
theorem test_window_refuses_claim_word : (Instr.reportWindowWrite 0 37 0 0x1).wellFormed = false := by decide
/-- The claim word with byte 3 clear only reaches memory. -/
theorem test_window_accepts_claim_word : (Instr.reportWindowWrite 0 37 0 0xE).wellFormed = true := by decide
/-- A matched outcome has all enables set. -/
theorem test_matched_refuses_clear_enable : (Instr.matchedOutcome (put 1 0 1 0 0x7)).wellFormed = false := by decide

/-! ### Worked examples of the spec -/

/-- Section 2.8: the captured budget, the verdict byte and the word that reaches memory. -/
theorem test_section_2_8 :
    clampBudget 0x22280010 = 0x221F0010 ∧ verdictByte .dropCheck 0 false = 0x0A#8 ∧
    withVerdictByte 0x4014B900 0x0A#8 = 0x4014B90A#32 ∧
    (landingOf 7 2 (Vector.replicate 5 0) whole 0x4014B900 0xF).length = 20 ∧
    (landingOf 7 2 (Vector.replicate 5 0) whole 0x4014B900 0xF).signal = -71 ∧
    (landingOf 7 2 (Vector.replicate 5 0) whole 0x4014B900 0xF).rate = 4 := by decide +kernel

/-- Table 1 of chapter 5. -/
theorem test_toward_target :
    towardTarget 0 4096 = 512 ∧ towardTarget 1352 4096 = 1695 ∧ towardTarget 4000 4096 = 4012 ∧
    towardTarget 4090 4096 = 4091 ∧ towardTarget 4096 4096 = 4096 ∧ towardTarget 4096 0 = 3584 := by decide

/-- Table 2 of chapter 5. -/
theorem test_outcome_sample :
    ((List.range 16).map (outcomeSample true)) =
      [4096, 4096, 2048, 1365, 1024, 819, 683, 585, 512, 455, 410, 372, 341, 315, 293, 273] ∧
    outcomeSample false 1 = 0 := by decide

/-- Sections 5.7 and 5.8. -/
theorem test_link_costs :
    linkCost (combinedDelivery 3000 0 2) 5 8 = 125 ∧ linkCost (combinedDelivery 0 3500 10) 6 8 = 63 ∧
    linkCost 3840 7 8 = 48 ∧ linkCost 4096 7 0 = 38 ∧ linkCost 410 0 8 = 5061 ∧ linkCost 21 0 8 = 16383 ∧
    linkCost (combinedDelivery 2048 3200 3) 4 8 = 383 ∧ linkCost (combinedDelivery 2304 3312 4) 4 8 = 124 := by decide

/-- Table 3 of chapter 6: sequences across the wrap. -/
theorem test_serial_sequences :
    seqNewer 1 65535 = true ∧ seqNewer 65535 1 = false ∧ withinLag 1 65535 = true ∧ withinLag 65535 1 = false ∧
    seqNewer 32768 0 = false ∧ seqNewer 32767 0 = true := by decide

/-- Section 10.9: SET TIMING with two fields clamped. -/
theorem test_section_10_9 :
    let s := { learning with mailbox := #v[0x0A1E4350, 0x0A084000, 0, 0, 0, 0] }
    let t := after (.setTiming { go with tag := 0x50 }) s
    t.settings = { Settings.default with
      sampleInterval := 100, waitLimit := 8, outcomeDeadline := 1, purgeWindow := 1 } ∧
    t.command.result = .doneClamped ∧ t.command.tag = 0x50 ∧ t.engine.nextExpiry = some 200 ∧
    t.mem.readWord (stripAddr 0 0) = 0x6E2D5004 := by decide +kernel

/-- Section 11.4: LINK-DOWN at 5, LATE-VERDICT at 3 and COMMAND-DONE at 1 over a threshold of 2. -/
abbrev events : State :=
  let s := after (.setEvents go) (args idle 0x00050030 0x01000002)
  let t := ((s.raise .linkDown).raise .lateVerdict).raise .commandDone
  { t with command := CommandEngine.reset }

/-- The first claim takes LINK-DOWN. -/
theorem test_section_11_4_first :
    events.irqAsserted = true ∧ (after (.claimRead 0 0) events).bus.readData = 4 ∧
    (after (.claimRead 0 0) events).irqAsserted = true := by decide +kernel

/-- The second takes LATE-VERDICT, and nothing above the threshold is left. -/
theorem test_section_11_4_second :
    let t := after (.claimRead 0 0) ((after (.claimRead 0 0) events).raise .linkDown)
    t.bus.readData = 7 ∧ t.irqAsserted = false ∧
    (after (.completeWrite 0 4 0x1) t).irqAsserted = true := by decide +kernel

/-- Section 6.9: link 13 replaces link 2, the victim nearer the head; link 15 is discarded. -/
theorem test_section_6_9 :
    let e : RouteEntry :=
      { RouteEntry.empty with
        state := .active, dest := 0x0C00, latest := some 5, primary := some { link := 4, total := 500 }
        candidates := [⟨4, 500, 5⟩, ⟨11, 700, 5⟩, ⟨2, 900, 5⟩, ⟨6, 900, 5⟩] }
    let s : State := { State.reset with links := Vector.replicate 32 { Link.free with cost := 0 } }
    let e' := s.withOffer e 13 { origin := 0x0C00, seq := 5, stamp := 850, gateway := false }
    e'.candidates.map (fun c => (c.link, c.stamp)) = [(4, 500), (11, 700), (6, 900), (13, 850)] ∧
    s.withOffer e' 15 { origin := 0x0C00, seq := 5, stamp := 950, gateway := false } = e' := by decide +kernel

/-- Section 6.8: hysteresis keeps link 0 at 425 against 393, and gives way to 363. -/
theorem test_section_6_8 :
    let links := (Vector.replicate 32 Link.free |>.set 3 { neighbour .live 0x0210 0 with cost := 125 }).set 7
      { neighbour .live 0x0344 1 with cost := 63 }
    let s : State := { State.reset with links := links }
    let e : RouteEntry :=
      { RouteEntry.empty with
        state := .active, dest := 0x0B00, latest := some 40, gateway := true, primary := some { link := 3, total := 425 }
        candidates := [⟨3, 300, 40⟩, ⟨7, 330, 40⟩] }
    (s.selected e).primary = some { link := 3, total := 425 } ∧
    (s.selected e).alternate = some { link := 7, total := 393 } ∧
    (s.selected { e with candidates := [⟨3, 300, 40⟩, ⟨7, 300, 41⟩], latest := some 41 }).primary =
      some { link := 7, total := 363 } ∧
    (s.selected
      { e with
        candidates := [⟨3, 290, 41⟩, ⟨7, 300, 44⟩], latest := some 44
        primary := some { link := 7, total := 363 } }).alternate = none := by decide +kernel

/-- Report words after a power-on reset (Table 8 of chapter 2). -/
theorem test_report_words :
    State.reset.reportWord 32 = 0x0A17D401 ∧ State.reset.reportWord 34 = 0x01000000 ∧
    State.reset.reportWord 40 = 0x20000000 ∧ busy.reportWord 33 = 0x02050009 ∧
    busy.reportWord 40 = 0x1C000101 ∧ busy.reportWord 41 = 0x01010000 := by decide +kernel

/-! ### Witnesses: what the hypotheses name -/

/-- The port is free in a state whose tap is that of the tests. -/
theorem free_of {s : State} (hb : s.bus = tap) : s.portFree := by
  rw [State.portFree, State.inReset, hb]; exact ⟨rfl, rfl⟩

/-- A go write is taken. -/
theorem takes_of {s : State} (hb : s.bus = tap) (hr : s.command.running = false) : s.takesCommands := ⟨free_of hb, hr⟩

/-- An access of a mesh port to a slot word. -/
theorem mesh_of {s : State} {i : Initiator} {a : WordAddr} {p : Port} {k : SlotNo} {w : Nat} (hb : s.bus = tap)
    (he : s.engine.state ≠ .transparent)
    (h : stripWordOf 0 a = none ∧ idle.slotOf a = some (k, w) ∧ idle.role i = .mesh p) : s.meshAt i a p k w := by
  refine ⟨free_of hb, he, ?_, ?_, ?_⟩
  · rw [hb]; exact h.1
  · simpa only [State.slotOf, hb] using h.2.1
  · simpa only [State.role, hb] using h.2.2

/-- An access of software to a slot word. -/
theorem software_of {s : State} {i : Initiator} {a : WordAddr} {k : SlotNo} {w : Nat} (hb : s.bus = tap)
    (he : s.engine.state ≠ .transparent)
    (h : stripWordOf 0 a = none ∧ idle.slotOf a = some (k, w) ∧ idle.role i = .software) :
    s.softwareAt i a k w := by
  refine ⟨free_of hb, he, ?_, ?_, ?_⟩
  · rw [hb]; exact h.1
  · simpa only [State.slotOf, hb] using h.2.1
  · simpa only [State.role, hb] using h.2.2

/-- The engine of the test state runs. -/
theorem busy_runs : busy.engine.state ≠ .transparent := by decide

/-- The slots of a state with one record. -/
theorem slot_of {s : State} {k : SlotNo} {r : SlotRecord}
    (hs : s.slots = (Vector.replicate 512 SlotRecord.vacant).set k.val r) (j : SlotNo) :
    s.slot j = if j = k then r else SlotRecord.vacant := by
  have hj : s.slot j = ((Vector.replicate 512 SlotRecord.vacant).set k.val r)[j.val] := by
    simp only [State.slot, hs]
  rw [hj, Vector.getElem_set]
  by_cases h : j = k
  · subst h; simp
  · have : ¬k.val = j.val := fun e => h (Fin.ext e.symm)
    simp [h, this]

/-- The slots of a state with two records. -/
theorem slot_of_two {s : State} {j k : SlotNo} {r q : SlotRecord}
    (hs : s.slots = ((Vector.replicate 512 SlotRecord.vacant).set j.val r).set k.val q) (i : SlotNo) :
    s.slot i = if i = k then q else if i = j then r else SlotRecord.vacant := by
  have hi : s.slot i = (((Vector.replicate 512 SlotRecord.vacant).set j.val r).set k.val q)[i.val] := by
    simp only [State.slot, hs]
  rw [hi, Vector.getElem_set, Vector.getElem_set]
  by_cases h : i = k
  · subst h; simp
  · have hk : ¬k.val = i.val := fun e => h (Fin.ext e.symm)
    by_cases h' : i = j
    · subst h'; simp [h, hk]
    · have hj : ¬j.val = i.val := fun e => h' (Fin.ext e.symm)
      simp [h, hk, h', hj]

/-- The routes of a state with one entry. -/
theorem route_of {s : State} {k : RouteIx} {e : RouteEntry}
    (hs : s.routes = (Vector.replicate 256 RouteEntry.empty).set k.val e) (j : RouteIx) :
    s.route j = if j = k then e else RouteEntry.empty := by
  have hj : s.route j = ((Vector.replicate 256 RouteEntry.empty).set k.val e)[j.val] := by
    simp only [State.route, hs]
  rw [hj, Vector.getElem_set]
  by_cases h : j = k
  · subst h; simp
  · have : ¬k.val = j.val := fun e => h (Fin.ext e.symm)
    simp [h, this]

/-- With no entry in use no destination is found. -/
theorem no_route {s : State} (hs : s.routes = Vector.replicate 256 RouteEntry.empty) (d : Node) :
    s.findRoute d = none := by
  have h : ∀ i, (s.route i).state = .empty := by
    intro i
    have : s.route i = (Vector.replicate 256 RouteEntry.empty)[i.val] := by simp only [State.route, hs]
    rw [this]; simp [RouteEntry.empty]
  unfold State.findRoute
  rw [List.find?_eq_none]
  intro i _
  simp [h i]

/-! ### Witnesses: the queue, the resets, the strip -/

/-- HardwareResetResult: no access held; a reset on and off, by the line and by power; a held landing; a held read. -/
theorem witness_HardwareResetResult :
    idle.bus.held = none ∧ idle.bus.resetLow = false ∧
    (inert.bus.held = none ∧ inert.bus.resetLow = true ∧ inert.bus.power = .ended) ∧
    ((powering .lineLow true).bus.resetLow = true ∧ (powering .lineLow true).bus.power = .lineLow) ∧
    ((powering .rising true).bus.resetLow = true ∧ (powering .rising true).bus.power = .rising) ∧
    ({ busy with bus := { tap with held := some (.landing (at_ 0 0) 0 0xF ⟨5, 0⟩) } }).bus.held =
      some (.landing (at_ 0 0) 0 0xF ⟨5, 0⟩) ∧
    ({ busy with bus := { tap with held := some (.passStart (at_ 0 2) 0) } }).bus.held =
      some (.passStart (at_ 0 2) 0) ∧ Instr.powerOnReset .applied ∈ [Instr.resetLineAsserted, .powerOnReset .applied] := by
  decide +kernel

/-- A power-on reset with RESET high, and one with RESET low at its end: cause POWER with count 0 in both, the second at the
release. A release that follows an assertion counts one more reset. -/
theorem test_reset_causes :
    (after (.powerOnReset (.stable 5)) (after (.powerOnReset .applied) busy)).cause = ⟨.power, 0⟩ ∧
    (after (.powerOnReset (.stable 5)) (after (.powerOnReset .applied) busy)).bus.position = 5 ∧
    (after (.powerOnReset (.stable 5)) (after .resetLineAsserted (after (.powerOnReset .applied) busy))).inReset = true ∧
    (after (.resetLineReleased 6) (after (.powerOnReset (.stable 5)) (after .resetLineAsserted
      (after (.powerOnReset .applied) busy)))).cause = ⟨.power, 0⟩ ∧
    (after (.resetLineReleased 6) (after .resetLineAsserted busy)).cause = ⟨.line, 1⟩ ∧
    (after (.powerOnReset .applied) busy).inReset = true ∧
    (after (.resetLineReleased 6) (after .resetLineAsserted busy)).inReset = false := by decide +kernel

/-- PartIsInertDuringReset, by the line and by power, and a row of the part's own. -/
theorem witness_PartIsInertDuringReset :
    (inert.bus.resetLow = true ∧ inert.bus.held = none) ∧
    ((powering .rising false).bus.power ≠ .ended ∧ (powering .rising false).bus.held = none) ∧
    (powering .lineLow true).bus.power ≠ .ended ∧ (.setEvents go, 0x06) ∈ goForms go ∧
    Instr.landing (put 1 0 0 0 0xF) ∈ slotWriteRows (put 1 0 0 0 0xF) ∧
    Instr.transmitWordRead (get 1 0 3) ∈ slotReadRows (get 1 0 3) ∧
    Instr.outcomeDeadlineExpiry 7 ∈ ownRows 7 ∧ Instr.sampleExpiry ∈ ownRows 7 := by decide +kernel

/-- The regions of the tests fit. -/
theorem tap_fits {s : State} (hb : s.bus = tap) : s.regionsFit := by
  have h : ∀ (j : Fin 4) (r : Region), tap.regions[j.val] = some r →
      j = 0 ∧ r = { base := 0x040000, sizeCode := 0, count := 8 } := by
    intro j r hr
    have h4 : ∀ j : Fin 4, j ≠ 0 → tap.regions[j.val] = none := by decide
    by_cases hj : j = 0
    · subst hj
      exact ⟨rfl, (Option.some.inj hr).symm⟩
    · rw [h4 j hj] at hr; cases hr
  unfold State.regionsFit
  rw [hb]
  refine ⟨?_, ?_, by decide⟩
  · intro j r hr
    obtain ⟨_, rfl⟩ := h j r hr
    decide
  · intro j k q r hjk hq hr
    exact absurd ((h j q hq).1.trans (h k r hr).1.symm) hjk

/-- BusTapRoutesAccesses: regions that fit, with the last word of the last slot; in TRANSPARENT, outside the slots, from an
IGNORED initiator, payload words, words 0 to 2 from software and mesh ports, and a word of a slot in no pass. -/
theorem witness_BusTapRoutesAccesses :
    busy.regionsFit ∧ busy.portFree ∧ idle.portFree ∧ busy.slotOf (at_ 7 127) = some (7, 127) ∧
    busy.slotOf (at_ 8 0) = none ∧ stripWordOf 0 (at_ 7 127) = none ∧ idle.engine.state = .transparent ∧
    busy.role 4 = .ignored ∧ busy.role 0 = .software ∧ busy.role 1 = .mesh 0 ∧
    (busy.slotOf (at_ 3 7) = some (3, 7) ∧ busy.slotOf (at_ 3 1) = some (3, 1) ∧
      busy.slotOf (at_ 3 2) = some (3, 2) ∧ busy.slotOf (at_ 3 6) = some (3, 6)) ∧
    (busy.slot 3).state = .vacant ∧
    ¬((withSlot busy 3 (inSend notice)).slot 3).passPort = some 1 := by
  refine ⟨tap_fits rfl, free_of rfl, free_of rfl, ?_⟩
  decide +kernel

/-- BusTapRoutesAccesses in the strip: a report word, the claim word, a word that memory answers, and the word of each row; and
the reports' first and last word. -/
theorem witness_BusTapRoutesAccesses_strip :
    busy.portFree ∧ stripWordOf 0 (stripAddr 0 32) = some 32 ∧ stripWordOf 0 (stripAddr 0 127) = some 127 ∧
    stripWordOf 0 (stripAddr 0 37) = some 37 ∧ stripWordOf 0 (stripAddr 0 31) = some 31 ∧
    stripWordOf 0 (stripAddr 0 128) = some 128 ∧ stripWordOf 0 (stripAddr 0 0) = some 0 ∧
    stripWordOf 0 (stripAddr 0 6) = some 6 ∧ stripWordOf 0 (stripAddr 0 7) = some 7 ∧
    stripWordOf 1 (stripAddr 0 0) = none ∧
    (after (.transmitWordRead { initiator := 4, addr := stripAddr 0 32, be := 0 }) busy).bus.readData = 0x0A17D401 :=
  ⟨free_of rfl, by decide +kernel⟩

/-- StripWrites, at the first and the last latch; the first and last plain words, the claim word with byte 3 clear; a clear
enable and a wrong key; codes 0 and 36 hex. -/
theorem witness_StripWrites :
    idle.portFree ∧ idle.takesCommands ∧
    (after (.argumentWordWrite 0 0 0x12345678 0x9) idle).mailbox[0] = 0x12000078 ∧
    (after (.argumentWordWrite 0 5 0x12345678 0x6) idle).mailbox[5] = 0x00345600 ∧
    (7 ≤ (7 : Fin 256).val ∧ (7 : Fin 256).val ≠ 37 ∧ 7 ≤ (255 : Fin 256).val ∧ (255 : Fin 256).val ≠ 37) ∧
    (0xE#4).getLsbD 0 = false ∧ 0x7#4 ≠ 0xF#4 ∧ (0x6E2C0042 : Word).extractLsb' 16 16 ≠ 0x6E2D#16 ∧
    (0x00 : Byte) ∉ listedCodes ∧ (0x36 : Byte) ∉ listedCodes :=
  ⟨free_of rfl, takes_of rfl rfl, by decide +kernel⟩

/-- BusyRefusal. -/
theorem witness_BusyRefusal :
    (running idle 0x25 0 0).portFree ∧ (running idle 0x25 0 0).command.running = true ∧
    (.stop go, 0x11) ∈ goForms go ∧
    ({ idle with refusal := { present := true, code := 0x11, tag := 0x42 } }).reportWord 36 = 0x11428008 ∧
    (inert.bus.resetLow = true ∧ inert.bus.power ≠ .rising) ∧ idle.bus.resetLow = false ∧ idle.takesCommands :=
  ⟨free_of rfl, by decide +kernel, by decide +kernel, by decide +kernel, by decide +kernel, by decide +kernel,
    takes_of rfl rfl⟩

/-! ### Witnesses: the event unit -/

/-- RaisesAndIrq: a flag already set, a priority of 0, a threshold of 7, a reset on. -/
theorem witness_RaisesAndIrq :
    events.pendingOf .linkDown = true ∧ (events.events.at 0).priority = 0 ∧
    ({ events.events with threshold := 7 }).threshold = 7 ∧ inert.bus.resetLow = true := by decide +kernel

/-- ClaimReadAndCompleteWrite, a claim: the lower number among equals, and none presentable. -/
theorem witness_ClaimRead :
    (let s := after (.setEvents go) (args idle 0x44444444 0x44440000)
     let t := (s.raise .purgeDone).raise .routeFound
     t.portFree ∧ t.events.presentable 0 = true ∧
      ∀ j, t.events.presentable j = true →
        (t.events.at j).priority < (t.events.at 0).priority ∨
        ((t.events.at j).priority = (t.events.at 0).priority ∧ (0 : Fin 12) ≤ j)) ∧
    idle.portFree ∧ ∀ k, idle.events.presentable k = false := by
  refine ⟨⟨⟨?_, ?_⟩, ?_, ?_⟩, free_of rfl, ?_⟩ <;> decide +kernel

/-- ClaimReadAndCompleteWrite, a complete write: sources 1 and 12 in service; 0, 13 and 255, a source not in service, byte 3
clear. -/
theorem witness_CompleteWrite :
    (let s := { idle with events :=
      ((idle.events.put 0 ⟨false, true, 0⟩).put 11 ⟨true, true, 7⟩) }
     s.portFree ∧ (s.events.at 0).inService = true ∧ (s.events.at 11).inService = true) ∧
    (0x1#4).getLsbD 0 = true ∧ (0xFFFFFF01 : Word).toNat % 256 = (0 : Fin 12).val + 1 ∧
    (0x0000000C : Word).toNat % 256 = (11 : Fin 12).val + 1 ∧ (0xE#4).getLsbD 0 = false ∧
    (0x00000100 : Word).toNat % 256 = 0 ∧ 12 < (13 : Word).toNat % 256 ∧ 12 < (255 : Word).toNat % 256 ∧
    ((2 : Word).toNat % 256 = (1 : Fin 12).val + 1 ∧ (idle.events.at 1).inService = false) :=
  ⟨⟨free_of rfl, by decide +kernel⟩, by decide +kernel⟩

/-- SetEventsWritesPriorities: nothing clamped, and 8 and 15 clamped to 7. -/
theorem witness_SetEvents :
    (args idle 0x80000000 0x0000000F).takesCommands ∧
    (after (.setEvents go) (args idle 0x80000000 0x0000000F)).command.result = .doneClamped ∧
    (after (.setEvents go) (args idle 0x80000000 0x0000000F)).events.threshold = 7 ∧
    (after (.setEvents go) (args idle 0x77777777 0x77770007)).command.result = .done :=
  ⟨takes_of rfl rfl, by decide +kernel⟩

/-! ### Witnesses: configuration -/

/-- Destinations are unique in a state with one entry in use, in TRANSPARENT, with no work. -/
theorem unique_of {s : State} {e : RouteEntry} (hs : s.routes = (Vector.replicate 256 RouteEntry.empty).set 0 e)
    (hm : s.mayHold e.dest) (hp : e.state = .active ↔ e.primary.isSome = true) (he : e.state ≠ .empty)
    (hw : s.verdicts.work = none) (hr : s.command.running = false) : s.destinationsUnique := by
  have h := route_of (s := s) (k := 0) hs
  have h0 : (RouteEntry.empty).state = .empty := rfl
  refine ⟨?_, ?_, ?_, ?_, ?_, ?_, ?_⟩
  · intro i j hi hj _
    rw [h] at hi hj
    split at hi
    · split at hj
      · rename_i a b; rw [a, b]
      · exact absurd h0 hj
    · exact absurd h0 hi
  · intro i hi
    rw [h] at hi ⊢
    split at hi
    · rename_i a; rw [if_pos a]; exact hm
    · exact absurd h0 hi
  · intro i
    rw [h]
    split
    · exact hp
    · simp [RouteEntry.empty]
  · intro i hi
    rw [h] at hi ⊢
    split at hi
    · exact absurd hi he
    · rename_i a; rw [if_neg a]
  · intro w h'; rw [hw] at h'; cases h'
  · intro h'; rw [hr] at h'; cases h'
  · intro _; exact hw

/-- SetIdentityResult: outside TRANSPARENT; own node 0 and 65535; a node that has a route entry. -/
theorem witness_SetIdentity :
    busy.takesCommands ∧ busy.engine.state ≠ .transparent ∧
    (args idle 0x00000001 0).takesCommands ∧ (0x00000001 : Word).extractLsb' 16 16 = 0#16 ∧
    (0xFFFF0001 : Word).extractLsb' 16 16 = 0xFFFF#16 ∧
    (let s := withRoute (args idle 0x0014BEEF 0x00010002) 0 route20
     s.takesCommands ∧ s.engine.state = .transparent ∧ s.mailbox[0].extractLsb' 16 16 ≠ 0 ∧
      s.mailbox[0].extractLsb' 16 16 ≠ 0xFFFF#16 ∧ s.destinationsUnique ∧ (s.route 0).dest = 0x14) := by
  refine ⟨takes_of rfl rfl, by decide +kernel, takes_of rfl rfl, by decide +kernel, by decide +kernel, takes_of rfl rfl,
    by decide +kernel, by decide +kernel, by decide +kernel, ?_, by decide +kernel⟩
  exact unique_of rfl ⟨by decide +kernel, by decide +kernel⟩ (by decide +kernel) (by decide +kernel) rfl rfl

/-- SetRolesAndSetRegion: a value 5; mesh port 0 twice; every role. -/
theorem witness_SetRoles :
    busy.takesCommands ∧ idle.takesCommands ∧ 4 < roleNumber 0x00000005 7 ∧
    (roleNumber 0x20000002 0 = roleNumber 0x20000002 7 ∧ 2 ≤ roleNumber 0x20000002 0 ∧
      roleNumber 0x20000002 0 ≤ 4) ∧
    (∀ i, roleNumber 0x12341100 i ≤ 4) ∧
    (∀ i j, i ≠ j → roleNumber 0x12341100 i = roleNumber 0x12341100 j → roleNumber 0x12341100 i < 2) :=
  ⟨takes_of rfl rfl, takes_of rfl rfl, by decide +kernel⟩

/-- SetRolesAndSetRegion: index 4, size code 4, count 257; count 0; a base that is no multiple, an end past the port space, another
region, the strip, 520 slots; and a region that is taken. -/
theorem witness_SetRegion :
    busy.takesCommands ∧ idle.takesCommands ∧ 3 < (0x04000000 : Word).toNat / 0x1000000 ∧
    256 < (0x00000101 : Word).toNat % 0x10000 ∧
    (after (.setRegion go) (args idle 0x00000000 0)).bus.regions[0] = none ∧
    ((after (.setRegion go) (args idle 0x01080200 0x01000004)).command.result,
     (after (.setRegion go) (args idle 0x01FFF000 0x03000004)).command.result,
     (after (.setRegion go) (args idle 0x01040C00 0x00000001)).command.result,
     (after (.setRegion go) (args idle 0x011FFC00 0x00000001)).command.result,
     (after (.setRegion go) (args idle 0x01080000 0x00000100)).command.result,
     (after (.setRegion go) (args (after (.setRegion go) (args idle 0x01080000 0x00000100)) 0x02100000
        0x00000100)).command.result) =
     (Result.badArgument, Result.badArgument, Result.badArgument, Result.badArgument, Result.done,
      Result.badArgument) :=
  ⟨takes_of rfl rfl, takes_of rfl rfl, by decide +kernel⟩

/-- SetTimingAndMetricResult: every field clamped at each end of its range. -/
theorem witness_SetTimingAndMetric :
    (args busy 0 0).takesCommands ∧ (after (.setTiming go) (args busy 0 0)).command.result = .doneClamped ∧
    (after (.setTiming go) (args busy 0 0)).settings.holdLimit = 8 ∧
    (after (.setTiming go) (args busy 0x02022111 0x01010801)).command.result = .doneClamped ∧
    (after (.setTiming go) (args busy 0x02022111 0x01010801)).engine.nextExpiry = some 120 ∧
    (after (.setMetric go) (args busy 0xFF081000 0x80)).command.result = .done ∧
    (after (.setMetric go) (args busy 0xFF091001 0x01)).settings =
      { Settings.default with hopPenalty := 255, hysteresis := 8, qualityFloor := 4096, signalFloor := 0 } :=
  ⟨takes_of rfl rfl, by decide +kernel⟩

/-- StartResult: each refusal; a start with nothing to free, and with a LOST and a PURGING link. -/
theorem witness_Start :
    busy.takesCommands ∧ busy.engine.state ≠ .transparent ∧
    ({ idle with identity := Identity.reset }).identity.ownNode = 0 ∧
    (after (.start go) { idle with bus := { tap with regions := Vector.replicate 4 none } }).command.result =
      .badArgument ∧
    (after (.start go) { idle with bus := { tap with roles := Vector.replicate 8 .software } }).command.result =
      .badArgument ∧
    idle.takesCommands ∧ idle.walker.walk = none ∧ idle.identity.ownNode ≠ 0 ∧
    (∃ j : Fin 4, idle.bus.regions[j.val] ≠ none) ∧ (∃ i p, idle.role i = .mesh p) ∧
    (after (.start go) idle).engine = { state := .learning, settle := 0, nextExpiry := some 200 } ∧
    ((after (.start go) { idle with links := neighbours }).walker.walk.map fun w => w.evict) = some [2, 3] := by
  refine ⟨takes_of rfl rfl, ?_, ?_, ?_, ?_, takes_of rfl rfl, ?_, ?_, ?_, ?_, ?_, ?_⟩
  case refine_7 => exact ⟨0, by decide +kernel⟩
  case refine_8 => exact ⟨1, 0, by decide +kernel⟩
  all_goals decide +kernel

/-- StopAndRestart. -/
theorem witness_StopAndRestart :
    idle.takesCommands ∧ idle.engine.state = .transparent ∧ busy.takesCommands ∧ busy.engine.state ≠ .transparent ∧
    (after (.stop go) busy).engine.state = .transparent ∧ (after (.restart go) busy).cause = ⟨.command, 1⟩ :=
  ⟨takes_of rfl rfl, by decide +kernel, takes_of rfl rfl, by decide +kernel⟩

/-! ### Witnesses: commands on tables and lists -/

/-- StepCommandsAndFlushGoRunning: each argument error of PIN ROUTE at its edge, a pin that is taken, and the three cases of
FLUSH ROUTES. -/
theorem witness_StepCommandsAndFlush :
    busy.takesCommands ∧
    (([(0x00000005, 0), (0xFFFF0005, 0), (0x00090005, 0), (0x00140000, 0), (0x0014FFFF, 0), (0x00140009, 0),
        (0x00140005, 0x03000000), (0x00140005, 0x0000FFFF)] : List (Word × Word)).map fun a =>
      (after (.pinRoute go) (args busy a.1 a.2)).command.result) = List.replicate 8 .badArgument ∧
    (after (.pinRoute go) (args busy 0x00140005 0x0200FFFE)).command.running = true ∧
    idle.takesCommands ∧ idle.engine.state = .transparent ∧ busy.engine.state ≠ .transparent ∧
    busy.walker.walk = none ∧
    ({ busy with walker := { Walker.reset with walk := some ⟨true, false, [], 3⟩ } }).takesCommands ∧
    ({ busy with walker := { Walker.reset with walk := some ⟨true, false, [], 3⟩ } }).walker.walk ≠ none := by
  refine ⟨takes_of rfl rfl, ?_, ?_, takes_of rfl rfl, ?_, ?_, ?_, takes_of rfl rfl, ?_⟩ <;> decide +kernel

/-- PurgeBarAndClearCommands: TRANSPARENT; node 0, 65535, port 3; an unknown link; a full set and a full list; a LIVE link, a LOST link. -/
theorem witness_PurgeAdd :
    idle.takesCommands ∧ busy.takesCommands ∧
    (([0x00000000, 0xFFFF0000, 0x00050300, 0x00050100] : List Word).map fun a =>
      (after (.purgeAdd go) (args busy a 0)).command.result) =
      [.badArgument, .badArgument, .badArgument, .notFound] ∧
    (after (.purgeAdd go)
      { args busy 0x00050000 0 with purge := { PurgeUnit.reset with set := List.replicate 8 ⟨6, 1⟩ } }).command.result =
      .full ∧
    (after (.purgeAdd go)
      { args busy 0x00050001 0 with purge := { PurgeUnit.reset with bars := List.replicate 8 6 } }).command.result =
      .full ∧
    busy.findLink ⟨5, 0⟩ = some 0 ∧ busy.findLink ⟨7, 2⟩ = some 2 ∧
    (after (.purgeAdd go) (args busy 0x00050001 0)).purge = { set := [⟨5, 0⟩], window := some 120, bars := [5] } ∧
    (after (.purgeAdd go) (args busy 0x00070201 0)).purge = { set := [], window := none, bars := [7] } := by
  refine ⟨takes_of rfl rfl, takes_of rfl rfl, ?_⟩
  decide +kernel

/-- PurgeBarAndClearCommands: a node on the bar list, and one that is not. -/
theorem witness_CancelUnbarAndClear :
    (let s := { args busy 0x00050000 0 with purge := { PurgeUnit.reset with bars := [6, 5] } }
     s.takesCommands ∧ s.mailbox[0].extractLsb' 16 16 ∈ s.purge.bars) ∧
    (args busy 0x00050000 0).mailbox[0].extractLsb' 16 16 ∉ busy.purge.bars :=
  ⟨⟨takes_of rfl rfl, by decide +kernel⟩, by decide +kernel⟩

/-- ReadLinkAndReadSlot: link indexes 31 and 32, slot numbers 7 and 8 of 8. -/
theorem witness_ReadLinkAndReadSlot :
    busy.takesCommands ∧ (31 : Word).toNat % 256 = (31 : LinkIx).val ∧ 31 < (32 : Word).toNat % 256 ∧
    busy.slotCount = 8 ∧ busy.slotCount ≤ (8 : Word).toNat % 0x10000 ∧
    ((7 : Word).toNat % 0x10000 = (7 : SlotNo).val ∧ (7 : SlotNo).val < busy.slotCount) :=
  ⟨takes_of rfl rfl, by decide +kernel⟩

/-- ReadAndReleaseSteps: each command's step granted, with and without what it names. -/
theorem witness_ReadAndReleaseSteps :
    (let s := withRoute (running busy 0x30 0x00140000 0) 0 route20
     s.granted .command = true ∧ s.command.code = 0x30 ∧ s.findRoute 0x14 = some 0) ∧
    (running busy 0x30 0x00140000 0).findRoute 0x14 = none ∧
    ((running busy 0x33 1 0).granted .command = true ∧ (running busy 0x33 1 0).command.code = 0x33) ∧
    (let s := { running busy 0x34 0x00140000 0 with wanted := [⟨0x14, .found, 0, 1⟩] }
     s.granted .command = true ∧ s.command.code = 0x34 ∧ (∃ w ∈ s.wanted, w.dest = 0x14 ∧ w.state ≠ .waiting)) ∧
    (let s := { running busy 0x34 0x00140000 0 with wanted := [⟨0x14, .waiting, 0, 1⟩] }
     s.granted .command = true ∧ ∀ w ∈ s.wanted, w.dest = 0x14 → w.state = .waiting) := by
  refine ⟨?_, no_route rfl _, ?_, ?_, ?_⟩ <;> decide +kernel

/-- A fold that changes nothing. -/
theorem fold_keeps {α β : Type} {b : α} (l : List β) : l.foldl (fun b _ => b) b = b := by
  induction l with
  | nil => rfl
  | cons _ _ ih => exact ih

/-- With every entry ACTIVE for one destination no other destination finds an entry, and none can be taken. -/
theorem full_table {s : State} {e : RouteEntry} (hs : s.routes = Vector.replicate 256 e) (he : e.state = .active)
    (d : Node) (hd : e.dest ≠ d) : s.findRoute d = none ∧ s.takeable = none := by
  have h : ∀ i, s.route i = e := by
    intro i
    have : s.route i = (Vector.replicate 256 e)[i.val] := by simp only [State.route, hs]
    rw [this]; simp
  have hn : s.emptyRoute = none := by
    unfold State.emptyRoute
    rw [List.find?_eq_none]
    intro i _
    simp [h i, he]
  refine ⟨?_, ?_⟩
  · unfold State.findRoute
    rw [List.find?_eq_none]
    intro i _
    simp [h i, hd]
  · unfold State.takeable
    rw [hn]
    unfold State.oldestOrphan
    simp only [h, he]
    exact fold_keeps allRoutes

/-- PinSteps: ports 1 and 2; an entry found, an entry taken, no entry to take; a pin to remove, and none. -/
theorem witness_PinSteps :
    (let s := withRoute (running busy 0x20 0x00140006 0x01000010) 0 route20
     s.granted .command = true ∧ s.command.code = 0x20 ∧ s.findRoute 0x14 = some 0 ∧
      s.command.args[1].toNat / 0x1000000 = (1 : Port).val ∧ (0x02000010 : Word).toNat / 0x1000000 = (2 : Port).val) ∧
    (let s := running busy 0x20 0x00140006 0x01000010
     s.granted .command = true ∧ s.findRoute 0x14 = none ∧ s.takeable = some 0) ∧
    (let s := { running busy 0x20 0x00150006 0x01000010 with routes := Vector.replicate 256 route20 }
     s.granted .command = true ∧ s.findRoute 0x15 = none ∧ s.takeable = none) ∧
    (let s := withRoute (running busy 0x21 0x00140000 0) 0 { route20 with pin := some ⟨⟨6, 1⟩, 16⟩ }
     s.granted .command = true ∧ s.command.code = 0x21 ∧ s.findRoute 0x14 = some 0 ∧ (s.route 0).pin ≠ none) ∧
    (let s := withRoute (running busy 0x21 0x00140000 0) 0 route20
     s.granted .command = true ∧ s.findRoute 0x14 = some 0 ∧ (s.route 0).pin = none) := by
  refine ⟨?_, ⟨?_, no_route rfl _, ?_⟩, ⟨?_, full_table rfl rfl _ (by decide)⟩, ?_, ?_⟩ <;> decide +kernel

/-! ### Witnesses: slots -/

/-- ReceiveHeaderWriteResult: the slot being filled, and a slot in every other state, with no other fill of the port. -/
theorem witness_ReceiveHeaderWrite :
    (let s := withSlot busy 3 (filling notice)
     s.meshAt 1 (at_ 3 2) 0 3 2 ∧ s.meshAt 1 (at_ 3 6) 0 3 6 ∧ (s.slot 3).state = .filling ∧
      (s.slot 3).passPort = some 0) ∧
    ∀ r ∈ [SlotRecord.vacant, landed notice, { landed notice with state := .composed, source := some .composed },
        inSend notice, awaiting none, { filling notice with passPort := some 1 }],
      (withSlot busy 3 r).meshAt 1 (at_ 3 2) 0 3 2 ∧ (withSlot busy 3 r).slot 3 = r ∧
      ¬(r.state = .filling ∧ r.passPort = some 0) ∧
      ∀ j, j ≠ (3 : SlotNo) → ((withSlot busy 3 r).slot j).state = .filling →
        ((withSlot busy 3 r).slot j).passPort ≠ some 0 := by
  refine ⟨⟨mesh_of rfl busy_runs (by decide +kernel), mesh_of rfl busy_runs (by decide +kernel), by decide +kernel,
    by decide +kernel⟩, ?_⟩
  intro r hr
  refine ⟨mesh_of rfl busy_runs (by decide +kernel), ?_, ?_, ?_⟩
  · rw [slot_of (k := 3) (r := r) rfl]; simp
  · revert r; decide +kernel
  · intro j hj h
    rw [slot_of (k := 3) (r := r) rfl, if_neg hj] at h
    simp [SlotRecord.vacant] at h

/-- A state with two records and no verdict work owns its passes. -/
theorem owned_of {s : State} {r q : SlotRecord}
    (hs : s.slots = ((Vector.replicate 512 SlotRecord.vacant).set (3 : SlotNo).val r).set (5 : SlotNo).val q)
    (hv : s.verdicts = VerdictUnit.reset) (hr : r.wellFormed) (hq : q.wellFormed)
    (hf : ¬(r.state = .filling ∧ q.state = .filling)) (hi : ¬(r.state = .inSend ∧ q.state = .inSend))
    (hb : ∀ p, s.binding p =
      if r.state = .inSend ∧ r.passPort = some p then some ⟨3, .other, true, .noLookup, 6, none, none, none⟩
      else if q.state = .inSend ∧ q.passPort = some p then some ⟨5, .other, true, .noLookup, 6, none, none, none⟩
      else none) : s.passesOwned := by
  have h := slot_of_two (s := s) (j := 3) (k := 5) hs
  have hv0 : SlotRecord.vacant.wellFormed := by
    refine ⟨fun _ => rfl, ?_, ?_, ?_, ?_, ?_, ?_, ?_⟩ <;> decide +kernel
  have v0 : SlotRecord.vacant.state = .vacant := rfl
  refine ⟨?_, ?_, ?_, ?_⟩
  · intro k; rw [h]; split
    · exact hq
    · split
      · exact hr
      · exact hv0
  · intro j k hj hk _
    rw [h] at hj hk
    split at hj
    · split at hk
      · rename_i x y; rw [x, y]
      · split at hk
        · exact absurd ⟨hk, hj⟩ hf
        · rw [v0] at hk; cases hk
    · split at hj
      · split at hk
        · exact absurd ⟨hj, hk⟩ hf
        · split at hk
          · rename_i x _ y; rw [x, y]
          · rw [v0] at hk; cases hk
      · rw [v0] at hj; cases hj
  · intro p k
    rw [h, hb]
    clear h hb hs
    by_cases h5 : k = 5
    · subst h5
      by_cases a : r.state = .inSend ∧ r.passPort = some p
      · have : ¬q.state = .inSend := fun x => hi ⟨a.1, x⟩
        simp [a, this]
      · by_cases b : q.state = .inSend ∧ q.passPort = some p <;> simp [a, b]
    · by_cases h3 : k = 3
      · subst h3
        by_cases a : r.state = .inSend ∧ r.passPort = some p
        · simp [a]
        · by_cases b : q.state = .inSend ∧ q.passPort = some p <;> simp [a, b]
      · have e3 : ¬(3 : SlotNo) = k := fun e => h3 e.symm
        have e5 : ¬(5 : SlotNo) = k := fun e => h5 e.symm
        by_cases a : r.state = .inSend ∧ r.passPort = some p
        · simp [h5, h3, v0, a, e3]
        · by_cases b : q.state = .inSend ∧ q.passPort = some p <;> simp [h5, h3, v0, a, b, e5]
  · intro l hl
    simp [State.landings, hv, VerdictUnit.reset] at hl

/-- FillIsAbandoned: a fill in slot 3 and a pass into slot 5, VACANT, IN_SEND and AWAITING_OUTCOME; a restart; a stray landing. -/
theorem witness_FillIsAbandoned :
    (∀ q ∈ [SlotRecord.vacant, awaiting none],
      let s := withSlot (withSlot busy 3 (filling notice)) 5 q
      s.passesOwned ∧ s.meshAt 1 (at_ 5 2) 0 5 2 ∧ (s.slot 3).state = .filling ∧ (s.slot 3).passPort = some 0) ∧
    (let s := withSlot busy 3 (filling notice)
     s.meshAt 1 (at_ 3 2) 0 3 2 ∧ (s.slot 3).state = .filling ∧ (s.slot 3).passPort = some 0 ∧
      s.meshAt 1 (at_ 5 0) 0 5 0 ∧ ¬((s.slot 5).state = .filling ∧ (s.slot 5).passPort = some 0)) := by
  have hb : ∀ p, busy.binding p = none := by decide
  have hf : (filling notice).wellFormed := by
    refine ⟨?_, ?_, ?_, ?_, ?_, ?_, ?_, ?_⟩ <;> decide +kernel
  refine ⟨?_, mesh_of rfl busy_runs (by decide +kernel), by decide +kernel, by decide +kernel,
    mesh_of rfl busy_runs (by decide +kernel), by decide +kernel⟩
  intro q hq
  refine ⟨owned_of rfl rfl hf ?_ ?_ ?_ ?_, mesh_of rfl busy_runs (by decide +kernel), ?_, ?_⟩
  · simp only [List.mem_cons, List.not_mem_nil, or_false] at hq
    rcases hq with rfl | rfl <;> refine ⟨?_, ?_, ?_, ?_, ?_, ?_, ?_, ?_⟩ <;> decide +kernel
  · revert q; decide +kernel
  · revert q; decide +kernel
  · intro p
    have : (withSlot (withSlot busy 3 (filling notice)) 5 q).binding p = none := hb p
    rw [this]
    revert q p; decide +kernel
  · rw [slot_of_two (j := 3) (k := 5) (r := filling notice) (q := q) rfl]; rfl
  · rw [slot_of_two (j := 3) (k := 5) (r := filling notice) (q := q) rfl]; rfl

/-- SoftwareHeaderWriteComposes: a write to the first and to the last header word, in each state of the slot. -/
theorem witness_SoftwareHeaderWrite :
    ∀ r ∈ [SlotRecord.vacant, filling notice, landed notice, inSend notice, awaiting none],
      (withSlot busy 3 r).softwareAt 0 (at_ 3 2) 3 2 ∧ (withSlot busy 3 r).softwareAt 0 (at_ 3 6) 3 6 ∧
      (withSlot busy 3 r).slot 3 = r := by
  intro r _
  refine ⟨software_of rfl busy_runs (by decide +kernel), software_of rfl busy_runs (by decide +kernel), ?_⟩
  rw [slot_of (k := 3) (r := r) rfl]; simp

/-- StatusOutcomeAndHeaderFields at the ends of the fields. -/
theorem test_status_and_outcome_fields :
    (landingOf 0 0 notice whole 0xF7FF8000 0xF).length = 2047 ∧ (landingOf 0 0 notice whole 0xF7FF8000 0xF).signal = -128 ∧
    (landingOf 0 0 notice whole 0xF7FF8000 0x7).length = 255 ∧ (landingOf 0 0 notice whole 0xF7FF8000 0x7).rate = 0 ∧
    outcomeOf ⟨5, 0⟩ 0xFF000000 = { link := ⟨5, 0⟩, acked := true, attempts := 15, rate := 7 } := by decide +kernel

/-- LandingWaitsOrIsLate: 0, 3 and 4 landings wait. -/
theorem witness_LandingWaitsOrIsLate :
    ∀ n ∈ [0, 3, 4],
      let s := working (withSlot { busy with verdicts :=
        { VerdictUnit.reset with waiting := List.replicate n (landingIn notice) } } 3 (filling notice))
        (landingIn notice) .lookup
      s.meshAt 1 (at_ 3 0) 0 3 0 ∧ (s.slot 3).state = .filling ∧ (s.slot 3).passPort = some 0 ∧
      s.verdicts.work ≠ none ∧ (s.verdicts.waiting.length < 4 ↔ n ≠ 4) := by
  intro n hn
  refine ⟨mesh_of rfl busy_runs (by decide +kernel), ?_⟩
  revert n; decide +kernel

/-- LandingWithVerdictUnitFree: a stage decides each of DROP-LINK-ERROR, DROP-CHECK, DELIVER, ABSORB of a hello and DROP-BUDGET; a
notice and data for another node need a table step. -/
theorem witness_LandingWithVerdictUnitFree :
    (∀ r ∈ [filling notice, filling hello, filling (dataFor 9), filling (dataFor 0x15)],
      let s := withSlot busy 3 r
      s.meshAt 1 (at_ 3 0) 0 3 0 ∧ (s.slot 3).state = .filling ∧ (s.slot 3).passPort = some 0 ∧
      s.verdicts.work = none ∧ s.verdicts.waiting = []) ∧
    busy.stageVerdict (landingOf 3 0 notice whole 0x80140000 0xF) = some (.dropLinkError, 0, none) ∧
    busy.stageVerdict (landingOf 3 0 notice whole 0x00130000 0xF) = some (.dropMalformed, 0, none) ∧
    busy.stageVerdict (landingOf 3 0 (notice.set 4 0) whole 0x00140000 0xF) = some (.dropCheck, 0, none) ∧
    busy.stageVerdict (landingOf 3 0 hello whole 0x00140000 0xF) = some (.absorb, 0, none) ∧
    busy.stageVerdict (landingOf 3 0 (dataFor 9) whole 0x00140000 0xF) = some (.deliver, 0, none) ∧
    busy.stageVerdict (landingOf 3 0 (dataFor 0xFFFF) whole 0x00140000 0xF) = some (.flood, 1, none) ∧
    busy.stageVerdict (landingOf 3 0 notice whole 0x00140000 0xF) = none ∧
    busy.stageVerdict (landingOf 3 0 (dataFor 0x15) whole 0x00140000 0xF) = none := by
  refine ⟨?_, ?_⟩
  · intro r hr
    refine ⟨mesh_of rfl busy_runs (by decide +kernel), ?_⟩
    revert r; decide +kernel
  · refine ⟨?_, ?_, ?_, ?_, ?_, ?_, ?_, ?_⟩ <;> decide +kernel

/-- A hello of node 10, which has no link. -/
abbrev newHello : HeaderWords := header 0x000AFFFF 0x10010003 0x000A0000 0x00000014

/-- No FREE entry. -/
abbrev crowded : State := { busy with links := Vector.replicate 32 (neighbour .live 6 1) }

/-- A frame that a stage decides passed stage 5. -/
theorem passes_of {s : State} {l : Landing} {v : VerdictCode × PortMask × Option RefusalReason}
    (h : s.stageVerdict l = some v)
    (hv : v.1 ∉ [VerdictCode.dropLinkError, .dropMalformed, .dropCheck] ∧
      v.2.2 ∉ [some RefusalReason.notMine, some .barred] ∧ hdrKind l.words ≤ 2) : s.passesStage5 l := by
  unfold State.passesStage5
  rw [h]
  exact hv

/-- A hello that a stage decides as ABSORB is heard. -/
theorem hears_of {s : State} {l : Landing} (h : s.stageVerdict l = some (.absorb, 0, none)) (hk : hdrKind l.words = 1)
    (ht : hdrTransmitter l.words ≠ 0 ∧ hdrTransmitter l.words ≠ 0xFFFF#16 ∧
      hdrTransmitter l.words ≠ s.identity.ownNode) : s.hearsHello l :=
  ⟨passes_of h ⟨by decide, by decide, by rw [hk]; decide⟩, hk, ht⟩

/-- LandingWithVerdictUnitFree and WaitListTakesTheOldest: a hello of a known link; a frame of a LOST link. -/
theorem witness_FrameEffects_known :
    busy.hearsHello (landingIn hello) ∧ busy.findLink (landingIn hello).link = some 0 ∧
    heardState (busy.link 0).state ∧ busy.findLink ⟨7, 2⟩ = some 2 ∧ ¬heardState (busy.link 2).state := by
  refine ⟨hears_of ?_ ?_ ?_, ?_, Or.inr (Or.inl ?_), ?_, ?_⟩
  case refine_7 => unfold heardState; decide +kernel
  all_goals decide +kernel

/-- LandingWithVerdictUnitFree and WaitListTakesTheOldest: a hello of a new link, with a FREE entry and with none. -/
theorem witness_FrameEffects_new :
    busy.hearsHello (landingIn newHello) ∧ busy.findLink (landingIn newHello).link = none ∧ (busy.link 4).state = .free ∧
    (∀ j, j < (4 : LinkIx) → (busy.link j).state ≠ .free) ∧ crowded.helloRejected (landingIn newHello) := by
  refine ⟨hears_of ?_ ?_ ?_, ?_, ?_, ?_, hears_of ?_ ?_ ?_, ?_, ?_⟩ <;> decide +kernel

/-- A broadcast that a stage floods is new when the flood cache is empty. -/
theorem broadcast_of {s : State} {l : Landing} {v : VerdictCode × PortMask × Option RefusalReason}
    (h : s.stageVerdict l = some v)
    (hv : v.1 ∉ [VerdictCode.dropLinkError, .dropMalformed, .dropCheck] ∧
      v.2.2 ∉ [some RefusalReason.notMine, some .barred])
    (hk : hdrKind l.words = 0 ∧ hdrOrigin l.words ≠ s.identity.ownNode ∧ hdrFinal l.words ≠ s.identity.ownNode ∧
      hdrFinal l.words = 0xFFFF#16) (hf : s.verdicts.flood = []) : s.newBroadcast l :=
  ⟨passes_of h ⟨hv.1, hv.2, by rw [hk.1]; decide⟩, hk.1, hk.2.1, hk.2.2.1, hk.2.2.2,
    fun f h' => by rw [hf] at h'; cases h'⟩

/-- LandingWithVerdictUnitFree and WaitListTakesTheOldest: a broadcast whose pair is new. -/
theorem witness_FrameEffects_flood : busy.newBroadcast (landingIn (dataFor 0xFFFF)) := by
  have h : busy.stageVerdict (landingIn (dataFor 0xFFFF)) = some (.flood, 1, none) := by decide +kernel
  exact broadcast_of h (by decide +kernel) (by decide +kernel) rfl

/-- A landing of a header in slot 3. -/
abbrev land (s : State) (h : HeaderWords) : State := after (.landing (put 1 3 0 0x0014D800 0xF)) (withSlot s 3 (filling h))

/-- A hello creates its link in the lowest FREE entry, refreshes a known link, or counts and raises TABLE-FULL; a new broadcast
joins the flood cache, whose head leaves when it holds 64. -/
theorem test_frame_effects :
    (land busy newHello).link 4 =
      { Link.free with state := .probation, node := 10, signal := -40, heard := true, helloSeq := 3 } ∧
    (land busy hello).link 0 = { neighbour .live 5 0 with signal := -40, heard := true, helloSeq := 3 } ∧
    (land crowded newHello).counters[13] = 1 ∧ (land crowded newHello).pendingOf .tableFull = true ∧
    (land busy (dataFor 0xFFFF)).verdicts.flood = [⟨0x14, 7, 0⟩] ∧
    (let s := { busy with verdicts :=
       { VerdictUnit.reset with flood := ⟨1, 1, 9⟩ :: List.replicate 63 ⟨2, 1, 8⟩ } }
     (land s (dataFor 0xFFFF)).verdicts.flood.length = 64 ∧
      (land s (dataFor 0xFFFF)).verdicts.flood.head? = some ⟨2, 1, 8⟩) := by
  decide +kernel

/-- StrayLandingIsMalformed: a slot in each state but filling by this port. -/
theorem witness_StrayLanding :
    ∀ r ∈ [SlotRecord.vacant, landed notice, inSend notice, awaiting none, { filling notice with passPort := some 1 }],
      (withSlot busy 3 r).meshAt 1 (at_ 3 0) 0 3 0 ∧ (withSlot busy 3 r).slot 3 = r ∧
      ¬(r.state = .filling ∧ r.passPort = some 0) := by
  intro r hr
  refine ⟨mesh_of rfl busy_runs (by decide +kernel), ?_, ?_⟩
  · rw [slot_of (k := 3) (r := r) rfl]; simp
  · revert r; decide +kernel

/-- OutcomeWaitEnds: no sent link; a sent link with 15 and with 16 outcomes queued; a deadline that has come. -/
theorem witness_OutcomeWaitEnds :
    (∀ n ∈ [15, 16], ∀ x ∈ [none, some (⟨5, 0⟩ : LinkName)],
      let s := withSlot { busy with outcomes := List.replicate n ⟨⟨5, 0⟩, true, 1, 3⟩ } 3 (awaiting x)
      s.meshAt 1 (at_ 3 1) 0 3 1 ∧ (s.slot 3).state = .awaitingOutcome ∧ (s.slot 3).passPort = some 0 ∧
      (s.slot 3).sentLink = x ∧ s.outcomes.length = n ∧ s.inReset = false ∧ (s.slot 3).deadline = some 130) := by
  intro n hn x hx
  refine ⟨mesh_of rfl busy_runs (by decide +kernel), ?_⟩
  revert n x; decide +kernel

/-- UnmatchedOutcomeIsCountedAlone: a slot that awaits none, another port, a clear enable. -/
theorem witness_UnmatchedOutcome :
    (withSlot busy 3 (landed notice)).meshAt 1 (at_ 3 1) 0 3 1 ∧
    ((withSlot busy 3 (landed notice)).slot 3).state ≠ .awaitingOutcome ∧
    (withSlot busy 3 (awaiting none)).meshAt 2 (at_ 3 1) 1 3 1 ∧
    ((withSlot busy 3 (awaiting none)).slot 3).passPort ≠ some 1 ∧ 0x7#4 ≠ 0xF#4 :=
  ⟨mesh_of rfl busy_runs (by decide +kernel), by decide +kernel, mesh_of rfl busy_runs (by decide +kernel),
    by decide +kernel⟩

/-! ### Witnesses: verdict work -/

/-- A state with a held landing write, its landing first in the wait list. -/
abbrev held : State :=
  { busy with
    bus := { tap with held := some (.landing (at_ 3 0) 0x00140000 0xF ⟨5, 0⟩) }
    verdicts := { VerdictUnit.reset with waiting := [landingOf 3 0 notice whole 0x00140000 0xF, landingIn hello] } }

/-- A state with a held word-2 read of a pass on slot 3. -/
abbrev heldRead (tr : Treatment) (h : HeaderWords) (n : Option LinkName) : State :=
  { withSlot busy 3 (inSend h) with
    bus := { tap with held := some (.passStart (at_ 3 2) 0) }
    overlay :=
      { Overlay.reset with
        bindings := #v[some ⟨3, tr, true, .awaiting, 6, none, none, n⟩, none, none] } }

/-- BusTapRoutesAccesses while a landing write and a word-2 read are held: C_RDY is low, and rows of each kind. -/
theorem witness_BusTapRoutesAccesses_held :
    held.bus.held ≠ none ∧ held.cReady = false ∧ (heldRead .unicastData (dataFor 20) none).bus.held ≠ none ∧
    ∀ c ∈ [Instr.landing (put 1 0 0 0 0xF), .transmitWordRead (get 1 0 3), .setEvents go, .unknownCommand go 0,
        .argumentWordWrite 1 5 0 0xF, .claimRead 1 0xF],
      c ∈ portRows (put 1 0 0 0 0xF) (get 1 0 3) go 0 5 32 := by
  decide +kernel

/-- WaitListTakesTheOldest: a held landing that needs a step, and one that a stage decides, held and not held. -/
theorem witness_WaitListTakesTheOldest :
    held.inReset = false ∧ held.verdicts.work = none ∧
    held.verdicts.waiting = [landingOf 3 0 notice whole 0x00140000 0xF, landingIn hello] ∧
    (landingOf 3 0 notice whole 0x00140000 0xF).held = true ∧
    busy.stageVerdict (landingOf 3 0 notice whole 0x00140000 0xF) = none ∧
    held.stageVerdict (landingOf 3 0 hello whole 0x00140000 0xF) = some (.absorb, 0, none) ∧
    held.stageVerdict (landingIn hello) = some (.absorb, 0, none) ∧ (landingIn hello).held = false := by
  refine ⟨?_, ?_, rfl, ?_, ?_, ?_, ?_, ?_⟩ <;> decide +kernel

/-- HoldLimitExpiries: a held landing; a held read of unicast data, with and without a verdict link, and of a notice. -/
theorem witness_HoldLimitExpiries :
    held.bus.held = some (.landing (at_ 3 0) 0x00140000 0xF ⟨5, 0⟩) ∧
    (heldRead .unicastData (dataFor 0x15) (some ⟨5, 0⟩)).bus.held = some (.passStart (at_ 3 2) 0) ∧
    (heldRead .unicastData (dataFor 0x15) (some ⟨5, 0⟩)).binding 0 =
      some ⟨3, .unicastData, true, .awaiting, 6, none, none, some ⟨5, 0⟩⟩ ∧
    (heldRead .relayedNotice notice none).binding 0 = some ⟨3, .relayedNotice, true, .awaiting, 6, none, none, none⟩ ∧
    (after .passStartHoldExpiry (heldRead .unicastData (dataFor 0x15) (some ⟨5, 0⟩))).bus.readData = 0x00090005 := by
  refine ⟨?_, ?_, ?_, ?_, ?_⟩ <;> decide +kernel

/-- LearningStepResult: no link and a LOST link; a stale sequence, an equal and a newer one; an entry taken; a full table. -/
theorem witness_LearningStep :
    (let s := working busy (landingIn notice) (.learning 1 true)
     s.granted .verdict = true ∧ (landingIn notice).held = false ∧ s.findLink (landingIn notice).link = some 0 ∧
      heardState (s.link 0).state ∧ hdrOrigin (landingIn notice).words = 0x14 ∧
      hdrSequence (landingIn notice).words = 7 ∧ s.findRoute 0x14 = none ∧ s.takeable = some 0) ∧
    busy.findLink ⟨10, 0⟩ = none ∧ busy.findLink ⟨7, 2⟩ = some 2 ∧ (busy.link 2).state = .lost ∧
    (let s := withRoute (working busy (landingIn notice) (.learning 1 true)) 0 route20
     s.findRoute 0x14 = some 0 ∧ (s.route 0).latest = some 6 ∧ seqNewer 7 6 = true) ∧
    (let s := withRoute busy 0 { route20 with latest := some 8 }
     s.findRoute 0x14 = some 0 ∧ (7 : Half) ≠ 8 ∧ seqNewer 7 8 = false) ∧
    (let s := withRoute busy 0 { route20 with latest := some 7 }
     s.findRoute 0x14 = some 0 ∧ (s.route 0).latest = some 7) ∧
    (let s := { busy with routes := Vector.replicate 256 { route20 with dest := 0x15 } }
     s.findRoute 0x14 = none ∧ s.takeable = none) := by
  refine ⟨⟨?_, ?_, ?_, Or.inr (Or.inl ?_), ?_, ?_, no_route rfl _, ?_⟩, ?_, ?_, ?_, ?_, ?_, ?_,
    full_table rfl rfl _ (by decide)⟩ <;> decide +kernel

/-- LearningStepResult: a landing that is held; a full candidate list with its victim, which the new total beats or not; and what
waits at the release: nothing, a walk, a RUNNING command before it. -/
theorem witness_LearningStep_offer :
    (let l := landingOf 3 0 notice whole 0x00140000 0xF
     let s := working { held with verdicts := VerdictUnit.reset } l (.learning 1 true)
     s.granted .verdict = true ∧ l.held = true ∧ s.bus.held = some (.landing (at_ 3 0) 0x00140000 0xF ⟨5, 0⟩)) ∧
    (let cs : List Candidate := [⟨4, 500, 5⟩, ⟨11, 700, 5⟩, ⟨2, 900, 5⟩, ⟨6, 900, 5⟩]
     let s : State := { State.reset with links := Vector.replicate 32 { Link.free with cost := 0 } }
     let total := fun c : Candidate => min 65535 (c.stamp + (s.link c.link).cost)
     (∀ c ∈ cs, c.link ≠ 13) ∧ 4 ≤ cs.length ∧ (cs.map fun c => c.link).Nodup ∧
      cs = [⟨4, 500, 5⟩, ⟨11, 700, 5⟩] ++ (⟨2, 900, 5⟩ :: [⟨6, 900, 5⟩]) ∧
      (∀ c ∈ [(⟨4, 500, 5⟩ : Candidate), ⟨11, 700, 5⟩], c.link = 4 ∨ total c < total ⟨2, 900, 5⟩) ∧
      total ⟨6, 900, 5⟩ ≤ total ⟨2, 900, 5⟩ ∧ total ⟨13, 850, 5⟩ < total ⟨2, 900, 5⟩ ∧
      total ⟨2, 900, 5⟩ ≤ total ⟨13, 950, 5⟩) ∧
    (let ph := fun s : State =>
       (after .noticeLearningStep (withRoute (working s (landingIn notice) (.learning 1 true)) 0 route20)).verdicts.work.map
         fun w => w.phase
     let walks : State := { busy with walker := { Walker.reset with walk := some ⟨true, false, [], 3⟩ } }
     ph busy = some (.choosing 1 true 0 none) ∧ ph walks = some (.choosing 1 true 0 (some .walker)) ∧
      ph (running walks 0x33 0 0) = some (.choosing 1 true 0 (some .command))) := by
  refine ⟨⟨?_, ?_, ?_⟩, ?_, ?_, ?_, ?_⟩ <;> decide +kernel

/-- A choosing step behind the walker step that waited when the learning step released storage. -/
abbrev behindWalk : State :=
  { working busy (landingIn notice) (.choosing 1 true 0 (some .walker)) with
    walker := { Walker.reset with walk := some ⟨true, false, [], 3⟩ } }

/-- ChoosingStepResult and ArbiterGrantsHighestClass: storage is with the walker. -/
theorem given_behindWalk : behindWalk.givenTo .walker := by
  refine ⟨?_, ?_⟩
  · intro h; cases h
  · exact ⟨landingIn notice, 1, true, 0, rfl⟩

/-- ArbiterGrantsHighestClass: a lookup and a command that come in while storage is with the walker are not granted; after the
walker's step the choosing step and the lookup are; a request that is withdrawn gives storage back; nothing is granted in a
reset. -/
theorem witness_ArbiterGrants :
    (let s := running { behindWalk with overlay :=
       { Overlay.reset with bindings := #v[some ⟨3, .unicastData, true, .awaiting, 6, none, none, none⟩, none, none] } }
         0x33 0 0
     s.granted .walker = true ∧ s.granted .overlay = false ∧ s.granted .command = false ∧ s.granted .verdict = false ∧
      (after .walkerStep s).granted .overlay = true ∧ (after .walkerStep s).granted .verdict = false ∧
      (after .walkerStep s).granted .walker = false) ∧
    ((after .walkerStep behindWalk).granted .verdict = true ∧ (after .walkerStep behindWalk).granted .walker = false) ∧
    (let s := { behindWalk with walker := Walker.reset }
     s.granted .verdict = true ∧ s.granted .walker = false) ∧
    (let s := { behindWalk with bus := { tap with resetLow := true } }
     s.granted .walker = false) := by
  refine ⟨⟨?_, ?_, ?_, ?_, ?_, ?_, ?_⟩, ⟨?_, ?_⟩, ⟨?_, ?_⟩, ?_⟩ <;> decide +kernel

/-- ChoosingStepResult: no entry; the primary over L, and over another link; held and not held. -/
theorem witness_ChoosingStep :
    (let s := working busy (landingIn notice) (.choosing 1 true 0 none)
     s.granted .verdict = true ∧ (landingIn notice).held = false ∧ s.findRoute 0x14 = none) ∧
    (let s := withRoute (working busy (landingIn notice) (.choosing 1 true 0 none)) 0 route20
     s.granted .verdict = true ∧ s.findRoute 0x14 = some 0 ∧
      (s.selected (s.route 0)).primary = some { link := 0, total := 425 } ∧
      (s.selected (s.route 0)).lastRebroadcast = none) ∧
    (let l := landingOf 3 0 notice whole 0x00140000 0xF
     let s := working { held with verdicts := VerdictUnit.reset } l (.choosing 1 true 1 none)
     s.granted .verdict = true ∧ l.held = true ∧
      s.bus.held = some (.landing (at_ 3 0) 0x00140000 0xF ⟨5, 0⟩)) := by
  refine ⟨⟨?_, ?_, no_route rfl _⟩, ⟨?_, ?_, ?_, ?_⟩, ?_, ?_, ?_⟩ <;> decide +kernel

/-- ForwardingLookupResult: a LIVE primary; a LOST one with another candidate and with none; no entry, with 15 and with 16 wanted
destinations, and for node 0. -/
theorem witness_ForwardingLookup :
    (let s := withRoute (working busy (landingIn (dataFor 0x14)) .lookup) 0 route20
     s.granted .verdict = true ∧ (landingIn (dataFor 0x14)).held = false ∧
      hdrFinal (landingIn (dataFor 0x14)).words = 0x14 ∧ s.findRoute 0x14 = some 0 ∧
      (s.route 0).primary = some ⟨0, 425⟩ ∧ (s.link 0).state = .live) ∧
    (let s := withRoute (working busy (landingIn (dataFor 0x14)) .lookup) 0
       { route20 with primary := some ⟨2, 99⟩ }
     (s.link 2).state ≠ .live ∧ (s.selected (s.route 0)).primary = some ⟨0, 425⟩) ∧
    (let s := withRoute (working busy (landingIn (dataFor 0x14)) .lookup) 0
       { route20 with primary := some ⟨2, 99⟩, candidates := [] }
     (s.selected (s.route 0)).primary = none) ∧
    busy.findRoute 0x14 = none ∧ hdrFlowClass (landingIn (dataFor 0x14)).words ≤ 1 ∧
    (List.replicate 15 (⟨0x16, .waiting, 0, 1⟩ : WantedEntry)).length < 16 ∧
    ¬(List.replicate 16 (⟨0x16, .waiting, 0, 1⟩ : WantedEntry)).length < 16 ∧
    ¬(hdrFinal (landingIn (dataFor 0)).words ≠ 0) := by
  refine ⟨⟨?_, ?_, ?_, ?_, ?_, ?_⟩, ⟨?_, ?_⟩, ?_, no_route rfl _, ?_, ?_, ?_, ?_⟩ <;> decide +kernel

/-- ForwardingLookupResult: a landing that is held; a wanted entry that is WAITING, at 255 frames, and one that is FOUND. -/
theorem witness_ForwardingLookup_held :
    (let l := landingOf 3 0 (dataFor 0x14) whole 0x00140000 0xF
     let s := working { held with verdicts := VerdictUnit.reset } l .lookup
     s.granted .verdict = true ∧ l.held = true ∧ s.bus.held = some (.landing (at_ 3 0) 0x00140000 0xF ⟨5, 0⟩)) ∧
    (let w := fun ws : List WantedEntry =>
       (after .forwardingLookup (withRoute (working { busy with wanted := ws } (landingIn (dataFor 0x14)) .lookup) 0
         { route20 with state := .orphan, primary := none })).wanted
     w [⟨0x14, .waiting, 2, 255⟩] = [⟨0x14, .waiting, 2, 255⟩] ∧
      w [⟨0x14, .waiting, 2, 254⟩] = [⟨0x14, .waiting, 2, 255⟩] ∧
      w [⟨0x15, .found, 2, 9⟩, ⟨0x14, .found, 2, 9⟩] = [⟨0x15, .found, 2, 9⟩, ⟨0x14, .waiting, 0, 1⟩]) := by
  refine ⟨⟨?_, ?_, ?_⟩, ?_, ?_, ?_⟩ <;> decide +kernel

/-! ### Witnesses: transmit passes -/

/-- A state with one record has no pass of port 0 elsewhere. -/
theorem no_other_pass {s : State} {r : SlotRecord}
    (hs : s.slots = (Vector.replicate 512 SlotRecord.vacant).set (3 : SlotNo).val r) :
    ∀ j, j ≠ (3 : SlotNo) → (s.slot j).state = .inSend → (s.slot j).passPort ≠ some 0 := by
  intro j hj h
  rw [slot_of (k := 3) (r := r) hs, if_neg hj] at h
  simp [SlotRecord.vacant] at h

/-- TransmitPassStarts: a landed frame with a lookup (unicast data, a notice) and without (a hello of this node). -/
theorem witness_TransmitPassStarts :
    (∀ r ∈ [landed (dataFor 0x15), landed notice, landed (header 0x00090000 0x10010003 0x00090000 0x00000014)],
      (withSlot busy 3 r).meshAt 1 (at_ 3 2) 0 3 2 ∧ ((withSlot busy 3 r).slot 3).state = .landed ∧
      ∀ j, j ≠ (3 : SlotNo) → ((withSlot busy 3 r).slot j).state = .inSend →
        ((withSlot busy 3 r).slot j).passPort ≠ some 0) ∧
    busy.treatmentOf (landed (dataFor 0x15)) = .unicastData ∧ busy.engine.state = .forwarding ∧
    busy.treatmentOf (landed notice) = .relayedNotice ∧
    busy.treatmentOf (landed (header 0x00090000 0x10010003 0x00090000 0x00000014)) = .ownHello := by
  refine ⟨?_, ?_, ?_, ?_, ?_⟩
  · intro r hr
    refine ⟨mesh_of rfl busy_runs (by decide +kernel), ?_, no_other_pass rfl⟩
    revert r; decide +kernel
  all_goals decide +kernel

/-- TransmitPassStarts: a frame for every row of Table 1 of chapter 8. -/
theorem witness_treatments :
    busy.treatmentIs { landed notice with marks := whole.set 4 0x7 } .uncaptured ∧
    busy.treatmentIs (landed (dataFor 0x15)) .unicastData ∧ busy.treatmentIs (landed (dataFor 0xFFFF)) .broadcastData ∧
    busy.treatmentIs (landed (header 0x00090000 0x10010003 0x00090000 0x00000014)) .ownHello ∧
    busy.treatmentIs (landed (header 0x00090000 0x20010003 0x00090000 0x00000014)) .ownNotice ∧
    busy.treatmentIs (landed notice) .relayedNotice ∧ busy.treatmentIs (landed hello) .other := by
  unfold State.treatmentIs
  refine ⟨?_, ?_, ?_, ?_, ?_, ?_, ?_⟩ <;> decide +kernel

/-- The binding of a pass on slot 3 in the states of `owned_of`. -/
abbrev passOn3 (s : State) : State :=
  { s with
    overlay :=
      { Overlay.reset with
        bindings := #v[some ⟨3, .other, true, .noLookup, 6, none, none, none⟩, none, none] } }

/-- TransmitPassSupersedes: a VACANT slot; a slot in a pass of this port and of another; a slot that awaits an outcome; the port's
pass on another slot. -/
theorem witness_TransmitPassSupersedes :
    (∀ q ∈ [SlotRecord.vacant, landed notice, awaiting none],
      let s := passOn3 (withSlot (withSlot busy 3 (inSend notice)) 5 q)
      s.passesOwned ∧ s.meshAt 1 (at_ 5 2) 0 5 2 ∧ s.slot 5 = q ∧ (s.slot 3).state = .inSend ∧
      (s.slot 3).passPort = some 0) ∧
    (let s := passOn3 (withSlot busy 3 (inSend notice))
     s.meshAt 1 (at_ 3 2) 0 3 2 ∧ s.meshAt 2 (at_ 3 2) 1 3 2 ∧ (s.slot 3).state = .inSend ∧
      (s.slot 3).passPort = some 0) := by
  have hw : (inSend notice).wellFormed := by
    refine ⟨?_, ?_, ?_, ?_, ?_, ?_, ?_, ?_⟩ <;> decide +kernel
  refine ⟨?_, mesh_of rfl busy_runs (by decide +kernel), mesh_of rfl busy_runs (by decide +kernel), by decide +kernel,
    by decide +kernel⟩
  intro q hq
  have h : ∀ i, (passOn3 (withSlot (withSlot busy 3 (inSend notice)) 5 q)).slot i =
      if i = 5 then q else if i = 3 then inSend notice else SlotRecord.vacant :=
    slot_of_two (j := 3) (k := 5) rfl
  refine ⟨owned_of (r := inSend notice) (q := q) rfl rfl hw ?_ ?_ ?_ ?_, mesh_of rfl busy_runs (by decide +kernel), ?_,
    ?_, ?_⟩
  · simp only [List.mem_cons, List.not_mem_nil, or_false] at hq
    rcases hq with rfl | rfl | rfl <;> refine ⟨?_, ?_, ?_, ?_, ?_, ?_, ?_, ?_⟩ <;> decide +kernel
  · clear h; revert q; decide +kernel
  · clear h; revert q; decide +kernel
  · clear h
    intro p
    have hb : (passOn3 (withSlot (withSlot busy 3 (inSend notice)) 5 q)).binding p = (passOn3 busy).binding p := rfl
    rw [hb]
    clear hb
    revert q p; decide +kernel
  · rw [h, if_pos rfl]
  · rw [h, if_neg (by decide), if_pos rfl]
  · rw [h, if_neg (by decide), if_pos rfl]

/-- PassStartLookupBinds: a usable primary, a usable alternate alone, neither; a notice over a LIVE primary, and over none. -/
theorem witness_PassStartLookupBinds :
    (let s := heldRead .unicastData (dataFor 0x14) none
     s.granted .overlay = true ∧ (∀ q, q ≠ (0 : Port) → s.awaitsLookup q = false) ∧
      s.binding 0 = some ⟨3, .unicastData, true, .awaiting, 6, none, none, none⟩) ∧
    (after .passStartLookup (withRoute (heldRead .unicastData (dataFor 0x14) none) 0 route20)).bus.readData =
      0x00090005 ∧
    (after .passStartLookup (withRoute (heldRead .unicastData (dataFor 0x14) none) 0
      { route20 with primary := some ⟨1, 9⟩, alternate := some ⟨0, 425⟩ })).bus.readData = 0x00090005 ∧
    (after .passStartLookup (withRoute (heldRead .unicastData (dataFor 0x14) none) 0
      { route20 with primary := some ⟨1, 9⟩ })).counters[9] = 1 ∧
    (after .passStartLookup (withRoute (heldRead .relayedNotice notice none) 0 route20)).overlay.bindings[0] =
      some ⟨3, .relayedNotice, true, .answered, 6, some 425, none, none⟩ ∧
    (after .passStartLookup (withRoute (heldRead .relayedNotice notice none) 0
      { route20 with primary := none })).overlay.bindings[0] =
      some ⟨3, .relayedNotice, true, .answered, 6, some 65535, none, none⟩ := by
  refine ⟨⟨?_, ?_, ?_⟩, ?_, ?_, ?_, ?_, ?_⟩ <;> decide +kernel

/-- PassPortReadsWords: words 3 and 6 of a captured and of an uncaptured frame. -/
theorem witness_PassPortReadsWords :
    (let s := passOn3 (withSlot busy 3 (inSend notice))
     s.meshAt 1 (at_ 3 3) 0 3 3 ∧ s.meshAt 1 (at_ 3 6) 0 3 6 ∧ (s.slot 3).state = .inSend ∧
      (s.slot 3).passPort = some 0 ∧ s.binding 0 = some ⟨3, .other, true, .noLookup, 6, none, none, none⟩ ∧
      ∀ v : HeaderIx, (s.slot 3).marks[v.val] = 0xF#4) ∧
    (Treatment.uncaptured ≠ .other) ∧
    (after (.transmitWordRead (get 1 3 3)) (passOn3 (withSlot busy 3 (inSend notice)))).bus.readData = 0x20020007 ∧
    (after (.transmitWordRead (get 1 3 6)) (passOn3 (withSlot busy 3 (inSend notice)))).overlay.bindings[0] = none := by
  refine ⟨⟨mesh_of rfl busy_runs ?_, mesh_of rfl busy_runs ?_, ?_, ?_, ?_, ?_⟩, ?_, ?_, ?_⟩ <;> decide +kernel

/-! ### Witnesses: Metric Unit, timers, walker -/

/-- OutcomeJobResult: a sweep that runs, one that is requested, an empty queue; a LIVE link, a LOST one, none; attempts 0
and 15. -/
theorem witness_OutcomeJob :
    ({ busy with metric := { sweep := some 3, request := false } }).metric.sweep ≠ none ∧
    ({ busy with metric := { sweep := none, request := true } }).metric.request = true ∧
    busy.outcomes = [] ∧
    busy.inReset = false ∧ busy.metric.sweep = none ∧ busy.metric.request = false ∧
    busy.findLink ⟨5, 0⟩ = some 0 ∧ heardState (busy.link 0).state ∧ busy.findLink ⟨7, 2⟩ = some 2 ∧
    (busy.link 2).state = .lost ∧ busy.findLink ⟨10, 0⟩ = none ∧
    ((after .outcomeJob { busy with outcomes := [⟨⟨5, 0⟩, true, 0, 3⟩] }).link 0).qTx = 512 ∧
    ((after .outcomeJob { busy with outcomes := [⟨⟨5, 0⟩, true, 15, 3⟩] }).link 0).qTx = 35 := by
  refine ⟨?_, ?_, ?_, ?_, ?_, ?_, ?_, Or.inr (Or.inl ?_), ?_, ?_, ?_, ?_, ?_⟩ <;> decide +kernel

/-- SweepBeginsAndEnds: a request alone, a request with a sweep running; the end with and without a walk. -/
theorem witness_SweepBeginsAndEnds :
    (let s := { busy with metric := { sweep := none, request := true } }
     s.inReset = false ∧ s.metric.request = true ∧ s.metric.sweep = none) ∧
    ({ busy with metric := { sweep := some 3, request := true } }).metric.sweep ≠ none ∧
    (let s := { busy with metric := { sweep := some 31, request := false } }
     s.metric.sweep = some 31 ∧ (s.link 31).state = .free ∧ s.walker.walk = none ∧ s.engine.state ≠ .transparent) ∧
    ({ busy with walker := { Walker.reset with walk := some ⟨true, false, [], 3⟩ } }).walker.walk ≠ none := by
  refine ⟨⟨?_, ?_, ?_⟩, ?_, ⟨?_, ?_, ?_, ?_⟩, ?_⟩ <;> decide +kernel

/-- SweepBeginsAndEnds and SweepVisitResult: entry 31 visited, LOST and not, with no walk and with one in progress. -/
theorem witness_SweepVisitsLastEntry :
    (let s := fun (l : Link) (w : Option Walk) => { busy with
       links := neighbours.set 31 l, metric := { sweep := some 31, request := false }
       walker := { Walker.reset with walk := w } }
     let lost := { neighbour .live 11 1 with silent := 3 }
     let kept := { neighbour .live 11 1 with heard := true, qRx := 4096 }
     let walk : Walk := ⟨false, false, [2], 3⟩
     (s lost none).metric.sweep = some 31 ∧ ((s lost none).link 31).state = .live ∧
      (after .sweepVisit (s lost none)).walker = { Walker.reset with refresh := true, walk := some ⟨false, false, [31], 0⟩ } ∧
      (after .sweepVisit (s lost (some walk))).walker =
        { refresh := true, flush := false, evict := [31], walk := some walk } ∧
      (after .sweepVisit (s kept none)).walker = { Walker.reset with walk := some ⟨true, false, [], 0⟩ } ∧
      ((after .sweepVisit (s kept none)).link 31).state = .live ∧
      (after .sweepVisit (s kept (some walk))).walker = { Walker.reset with refresh := true, walk := some walk }) := by
  refine ⟨?_, ?_, ?_, ?_, ?_, ?_, ?_⟩ <;> decide +kernel

/-- A sweep at an entry with a given neighbour. -/
abbrev sweeping (l : Link) : State :=
  { busy with links := neighbours.set 0 l, metric := { sweep := some 0, request := false } }

/-- SweepVisitResult: each state that is visited, at and below the dead limit, on and below the floor; a skipped entry. -/
theorem witness_SweepVisit :
    (sweeping (neighbour .live 5 0)).metric.sweep = some 0 ∧ heardState .live ∧ ¬heardState .lost ∧
    ((after .sweepVisit (sweeping { neighbour .live 5 0 with silent := 3 })).link 0).state = .lost ∧
    ((after .sweepVisit (sweeping { neighbour .live 5 0 with silent := 2 })).link 0).state = .weak ∧
    ((after .sweepVisit (sweeping { neighbour .live 5 0 with qTx := 410, txSamples := 4 })).link 0).state = .live ∧
    ((after .sweepVisit (sweeping { neighbour .weak 5 0 with qTx := 511, txSamples := 4 })).link 0).state = .weak ∧
    ((after .sweepVisit (sweeping { neighbour .weak 5 0 with qTx := 512, txSamples := 4 })).link 0).state = .live ∧
    ((after .sweepVisit (sweeping { neighbour .probation 5 0 with heard := true, probation := 1 })).link 0).state =
      .probation ∧
    ((after .sweepVisit (sweeping { neighbour .probation 5 0 with heard := true, probation := 2, qRx := 512 })).link
      0).state = .weak ∧
    ((after .sweepVisit (sweeping { neighbour .live 5 0 with silent := 3 })).walker.walk.map fun w => w.evict) =
      some [0] := by
  refine ⟨?_, Or.inr (Or.inl rfl), ?_, ?_, ?_, ?_, ?_, ?_, ?_, ?_, ?_⟩
  case refine_2 => unfold heardState; decide
  all_goals decide +kernel

/-- SampleExpiryResult: a sweep requested and an overrun; a wanted entry and a flood entry at their limits; LEARNING below and at
the settle setting. -/
theorem witness_SampleExpiry :
    busy.inReset = false ∧ busy.engine.nextExpiry = some 200 ∧ learning.engine.nextExpiry = some 200 ∧
    (after .sampleExpiry busy).metric.request = true ∧
    (after .sampleExpiry { busy with metric := { sweep := none, request := true } }).counters[12] = 1 ∧
    (after .sampleExpiry learning).engine = { state := .forwarding, settle := 5, nextExpiry := some 400 } ∧
    (after .sampleExpiry { learning with engine := ⟨.learning, 3, some 200⟩ }).engine.state = .learning ∧
    (after .sampleExpiry { busy with wanted := [⟨0x14, .waiting, 4, 1⟩, ⟨0x15, .waiting, 3, 1⟩] }).wanted =
      [⟨0x14, .expired, 5, 1⟩, ⟨0x15, .waiting, 4, 1⟩] ∧
    (after .sampleExpiry { busy with verdicts :=
      { VerdictUnit.reset with flood := [⟨1, 1, 9⟩, ⟨2, 1, 8⟩] } }).verdicts.flood = [⟨2, 1, 9⟩] := by
  refine ⟨?_, ?_, ?_, ?_, ?_, ?_, ?_, ?_, ?_⟩ <;> decide +kernel

/-- PurgeWindowExpires: a set with a LIVE link and a LOST one, with no walk and with a walk. -/
theorem witness_PurgeWindow :
    (let s := { busy with purge := { PurgeUnit.reset with set := [⟨5, 0⟩, ⟨7, 2⟩], window := some 120 } }
     s.inReset = false ∧ s.purge.window = some 120 ∧ s.engine.state ≠ .transparent ∧ s.walker.walk = none ∧
      (heardState (s.link 0).state ∧ ∃ n ∈ s.purge.set, s.findLink n = some 0)) ∧
    (let s := { busy with
      purge := { PurgeUnit.reset with set := [⟨6, 1⟩], window := some 120 }
      walker := { Walker.reset with walk := some ⟨true, false, [], 3⟩ } }
     s.walker.walk ≠ none) := by
  refine ⟨⟨?_, ?_, ?_, ?_, Or.inr (Or.inl ?_), ⟨5, 0⟩, ?_, ?_⟩, ?_⟩ <;> decide +kernel

/-- A walk at an entry. -/
abbrev walking (w : Walk) : State := { busy with walker := { Walker.reset with walk := some w } }

/-- WalkStepsAndCompletion: entries 0 and 254; an EMPTY entry, one flushed, one aged out, one kept; the completion with and
without a flush, and with work pending. -/
theorem witness_WalkSteps :
    (walking ⟨true, false, [], 0⟩).granted .walker = true ∧ (walking ⟨true, false, [], 254⟩).granted .walker = true ∧
    ((254 : RouteIx).val < 255 ∧ ((walking ⟨true, false, [], 0⟩).route 0).state = .empty) ∧
    (after .walkerStep (withRoute (walking ⟨false, true, [], 0⟩) 0 route20)).route 0 = RouteEntry.empty ∧
    (after .walkerStep (withRoute (walking ⟨true, false, [], 0⟩) 0 { route20 with age := 29 })).route 0 =
      RouteEntry.empty ∧
    ((after .walkerStep (withRoute (walking ⟨true, false, [], 0⟩) 0 { route20 with age := 28 })).route 0).age = 29 ∧
    (after .walkerStep (withRoute (walking ⟨false, false, [0], 0⟩) 0 route20)).route 0 = RouteEntry.empty ∧
    (let s := walking ⟨false, true, [2, 3], 255⟩
     s.granted .walker = true ∧ (s.route 255).state = .empty ∧ s.engine.state ≠ .transparent ∧
      (after .walkerStep s).link 2 = Link.free ∧ (after .walkerStep s).pendingOf .purgeDone = true ∧
      (after .walkerStep s).pendingOf .commandDone = true ∧ (after .walkerStep s).walker = Walker.reset) ∧
    (after .walkerStep { walking ⟨false, false, [], 255⟩ with
      walker := { refresh := true, flush := false, evict := [], walk := some ⟨false, false, [], 255⟩ } }).walker.walk =
      some ⟨true, false, [], 0⟩ := by
  refine ⟨?_, ?_, ?_, ?_, ?_, ?_, ?_, ⟨?_, ?_, ?_, ?_, ?_, ?_, ?_⟩, ?_⟩ <;> decide +kernel

/-- WalkStepsAndCompletion: entry 255 in use, emptied, and kept. -/
theorem witness_WalkStepsAtLastEntry :
    (let s := withRoute (walking ⟨true, false, [2], 255⟩) 255 { route20 with age := 29 }
     s.granted .walker = true ∧ (s.route 255).state = .active ∧ s.engine.state ≠ .transparent ∧
      (after .walkerStep s).route 255 = RouteEntry.empty ∧ (after .walkerStep s).pendingOf .gatewayChange = true ∧
      (after .walkerStep s).link 2 = Link.free) ∧
    (let s := withRoute (walking ⟨true, false, [2], 255⟩) 255 route20
     ((after .walkerStep s).route 255).age = 1 ∧ (after .walkerStep s).walker.walk = none) := by
  refine ⟨⟨?_, ?_, ?_, ?_, ?_, ?_⟩, ?_, ?_⟩ <;> decide +kernel

/-- The reports of a selection: an entry gains a primary for which frames wait, and the primary link of a flagged entry changes. -/
theorem test_selection_reports :
    (let s := { withRoute (running busy 0x20 0x00140005 0x00000010) 0
       { route20 with state := .orphan, primary := none, candidates := [] } with wanted := [⟨0x14, .waiting, 2, 1⟩] }
     let t := after .pinRouteStep s
     t.wanted = [⟨0x14, .found, 2, 1⟩] ∧ t.pendingOf .routeFound = true ∧ t.pendingOf .gatewayChange = true ∧
      (t.route 0).primary = some ⟨0, 141⟩) := by
  refine ⟨?_, ?_, ?_, ?_⟩ <;> decide +kernel

/-! ### Witnesses: selection -/

/-- EligibilityIsR106 at its edges: total 65534 and 65535, lag 2 and 3. -/
theorem witness_Eligibility :
    busy.eligible (some 9) ⟨0, 65409, 9⟩ = true ∧ busy.eligible (some 9) ⟨0, 65410, 9⟩ = false ∧
    busy.eligible (some 9) ⟨0, 0, 7⟩ = true ∧ busy.eligible (some 9) ⟨0, 0, 6⟩ = false ∧
    busy.eligible (some 9) ⟨1, 0, 9⟩ = false := by decide +kernel

/-- SelectionIsR107: a usable pin; no candidate; no primary before; the primary kept and beaten; an alternate, and none. -/
theorem witness_Selection :
    (let s := { busy with links := neighbours.set 1 (neighbour .live 6 1) }
     let e : RouteEntry :=
      { route20 with candidates := [⟨0, 300, 6⟩, ⟨1, 200, 6⟩] }
     (e.pin = none ∧ s.eligible e.latest ⟨0, 300, 6⟩ = true ∧ s.eligible e.latest ⟨1, 200, 6⟩ = true) ∧
      (s.selected e).primary = some ⟨1, 325⟩ ∧ (s.selected e).alternate = some ⟨0, 425⟩ ∧
      (s.selected { e with candidates := [⟨0, 300, 6⟩, ⟨1, 247, 6⟩] }).primary = some ⟨0, 425⟩ ∧
      (s.selected { e with candidates := [⟨0, 300, 6⟩, ⟨1, 246, 6⟩] }).primary = some ⟨1, 371⟩ ∧
      (s.selected { e with primary := none }).primary = some ⟨1, 325⟩ ∧
      (s.selected { e with pin := some ⟨⟨5, 0⟩, 9⟩ }).primary = some ⟨0, 134⟩ ∧
      (s.selected { e with candidates := [] }).primary = none ∧ (s.selected route20).alternate = none) := by
  refine ⟨⟨?_, ?_, ?_⟩, ?_, ?_, ?_, ?_, ?_, ?_, ?_, ?_⟩ <;> decide +kernel

/-- SequenceTestIsR103: no latest; a difference of 0, 1, 32767, 32768 and 65535. -/
theorem witness_SequenceTest :
    (let o : Offer := { origin := 0x14, seq := 7, stamp := 300, gateway := false }
     ({ route20 with latest := none }.afterSequence o).isSome = true ∧ (7 : Half) = o.seq ∧
      (0 < (o.seq - 6).toNat ∧ (o.seq - 6).toNat ≤ 32767) ∧ (o.seq - 32776).toNat = 32767 ∧
      32768 ≤ (o.seq - 32775).toNat ∧ 32768 ≤ (o.seq - 8).toNat) := by decide +kernel

/-! ### Witnesses: the invariants in a state, and its step -/

/-- MemoryStaysCanonical. -/
theorem witness_MemoryStaysCanonical :
    Memory.wf ({ idle with mem := [(3, 1), (9, 2)] }).mem ∧
    step { idle with mem := [(3, 1), (9, 2)] } = .next (State.tick { idle with mem := [(3, 1), (9, 2)] }) :=
  ⟨by decide, rfl⟩

/-- Every route entry of a state with empty routes is EMPTY. -/
theorem routes_empty {s : State} (hs : s.routes = Vector.replicate 256 RouteEntry.empty) (i : RouteIx) :
    s.route i = RouteEntry.empty := by
  have : s.route i = (Vector.replicate 256 RouteEntry.empty)[i.val] := by simp only [State.route, hs]
  rw [this]; simp

/-- ListsStayWithinCapacity: with landings that wait, and an evict set pending and one in the walk. -/
theorem witness_ListsStayWithinCapacity :
    (let s := { held with walker := { Walker.reset with evict := [3], walk := some ⟨true, false, [2], 0⟩ } }
     s.withinCapacity ∧ step s = .next s.tick) := by
  refine ⟨⟨by decide, by decide, by decide, by decide, by decide, by decide, ?_, by decide, ?_⟩, rfl⟩
  · intro i; rw [routes_empty rfl]; decide
  · intro w hw; cases hw; decide

/-- Two flood pairs, a PIN ROUTE that is RUNNING, a walk at entry 9 with a link of its own, and a link in the pending evict
set. -/
abbrev numbered : State :=
  { running busy 0x20 0x00140006 0x02000010 with
    verdicts := { VerdictUnit.reset with flood := [⟨2, 1, 62⟩, ⟨1, 1, 0⟩] }
    walker := { refresh := true, flush := false, evict := [3], walk := some ⟨false, false, [2], 9⟩ } }

/-- NumbersStayInRange. -/
theorem witness_NumbersStayInRange : numbered.inRange ∧ step numbered = .next numbered.tick := by
  refine ⟨⟨?_, ?_, ?_, ?_, by decide, by decide, ?_, ?_, ?_, by decide, by decide, by decide, by decide, ?_⟩, rfl⟩
  · unfold Settings.inRange; decide
  · intro i
    have : ∀ i : LinkIx,
        ((busy.link i).qRx ≤ 4096 ∧ (busy.link i).qTx ≤ 4096 ∧ (busy.link i).txSamples ≤ 255 ∧
          (busy.link i).silent ≤ 15 ∧ (busy.link i).probation ≤ 7 ∧
          (1 ≤ (busy.link i).cost ∧ (busy.link i).cost ≤ 16383) ∧
          (-128 ≤ (busy.link i).signal ∧ (busy.link i).signal ≤ 127) ∧
          ((busy.link i).state = .probation → (busy.link i).probation < 7)) := by decide +kernel
    exact this i
  · intro w h; cases h
  · intro i
    rw [routes_empty rfl]
    refine ⟨by decide, ?_, ?_, ?_, ?_⟩ <;> intro c hc <;> cases hc
  · intro o h; cases h
  · intro j r hr
    have h := ((tap_fits (s := busy) rfl).1 j r hr)
    exact ⟨h.1, h.2.1⟩
  · intro c; cases c <;> decide +kernel
  · intro l h; cases h

/-- ReportWindowWords: numbers in their ranges, and the walker, status and link summary words of that state. -/
theorem witness_ReportWindowWords :
    numbered.inRange ∧ numbered.withinCapacity ∧ numbered.reportWord 42 = 0x80090104 ∧
    numbered.reportWord 35 = 0x20018100 ∧ numbered.reportWord 40 = 0x1C000101 ∧ numbered.reportWord 41 = 0x01010000 := by
  refine ⟨witness_NumbersStayInRange.1,
    ⟨by decide, by decide, by decide, by decide, by decide, by decide, ?_, by decide, ?_⟩, ?_⟩
  · intro i; rw [routes_empty rfl]; decide
  · intro w hw; cases hw; decide
  · decide +kernel

/-- TablesHoldNoDuplicates: four links, two wanted destinations, two flood pairs, a purge set and a bar list. -/
theorem witness_TablesHoldNoDuplicates :
    (let s := { busy with
      wanted := [⟨0x14, .found, 0, 1⟩, ⟨0x15, .waiting, 3, 1⟩]
      verdicts := { VerdictUnit.reset with flood := [⟨2, 1, 62⟩, ⟨1, 1, 0⟩] }
      purge := { PurgeUnit.reset with set := [⟨5, 0⟩, ⟨6, 1⟩], bars := [6, 7] } }
     s.noDuplicates ∧ step s = .next s.tick) := by
  have hl : ∀ i j, (busy.link i).state ≠ .free → (busy.link j).state ≠ .free →
      busy.linkName i = busy.linkName j → i = j := by decide +kernel
  have hn : ∀ i, (busy.link i).state ≠ .free → (busy.link i).node ≠ 0 ∧ (busy.link i).node ≠ 0xFFFF#16 := by
    decide +kernel
  have hr : ∀ i j p, busy.role i = .mesh p → busy.role j = .mesh p → i = j := by decide +kernel
  refine ⟨⟨hl, hn, ?_, by decide, by decide, by decide, by decide, hr, tap_fits rfl⟩, rfl⟩
  intro r; rw [routes_empty rfl]; decide

/-- Nothing runs in a state with the reset values of what runs. -/
theorem quiet_of {s : State} (hs : s.slots = Vector.replicate 512 SlotRecord.vacant) (hv : s.verdicts = VerdictUnit.reset)
    (hb : s.bus.held = none) (ho : s.outcomes = []) (hm : s.metric = MetricUnit.reset) (hp : s.purge.window = none)
    (hw : s.walker.walk = none) (hn : s.engine.nextExpiry = none) (hc : s.engine.settle = 0)
    (hq : s.overlay = Overlay.reset) : s.quiet := by
  refine ⟨?_, by rw [hv]; rfl, by rw [hv]; rfl, hb, ho, hm, hp, hw, hn, hc, ?_⟩
  · intro k
    have : s.slot k = (Vector.replicate 512 SlotRecord.vacant)[k.val] := by simp only [State.slot, hs]
    rw [this]; simp
  · intro p
    have : s.binding p = (Overlay.reset).bindings[p.val] := by simp only [State.binding, hq]
    rw [this]; simp [Overlay.reset]

/-- TransparentStaysQuiet: a state in TRANSPARENT with a link, a bar and a counter. -/
theorem witness_TransparentStaysQuiet :
    (let s := { idle with links := neighbours, purge := { PurgeUnit.reset with bars := [6] } }
     s.engine.state = .transparent ∧ s.transparentIsQuiet ∧ step s = .next s.tick) := by
  exact ⟨rfl, fun _ => quiet_of rfl rfl rfl rfl rfl rfl rfl rfl rfl rfl, rfl⟩

/-- RoutesNeverNameFreeLinks: a state with a route over a LIVE link and a walk that frees a LOST one. -/
theorem witness_RoutesNeverNameFreeLinks :
    (let s := withRoute (walking ⟨true, false, [2], 0⟩) 0 route20
     s.routesNameLinks ∧ step s = .next s.tick) := by
  have h := route_of (s := withRoute (walking ⟨true, false, [2], 0⟩) 0 route20) (k := 0) (e := route20) rfl
  refine ⟨⟨?_, ?_, ?_, ?_, ?_⟩, rfl⟩
  · intro r i hn
    rw [h] at hn
    split at hn
    · have : i = 0 := by
        rcases hn with ⟨c, hc, e⟩ | ⟨c, hc, e⟩ | ⟨c, hc, e⟩
        · simp only [List.mem_cons, List.not_mem_nil, or_false] at hc; subst hc; exact e.symm
        · cases hc; exact e.symm
        · cases hc
      subst this; decide +kernel
    · rcases hn with ⟨c, hc, _⟩ | ⟨c, hc, _⟩ | ⟨c, hc, _⟩ <;> cases hc
  · intro r hr
    rw [h] at hr ⊢
    split at hr
    · cases hr
    · rename_i a; rw [if_neg a]
  · intro i hi; cases hi
  · intro w hw
    cases hw
    refine ⟨?_, ?_⟩
    · intro i hi
      simp only [List.mem_cons, List.not_mem_nil, or_false] at hi
      subst hi
      exact ⟨by decide +kernel, by simp [Walker.reset]⟩
    · intro r i hr _
      exact absurd hr (by simp)
  · intro he; cases he

/-- DestinationsStayUnique. -/
theorem witness_DestinationsStayUnique :
    (withRoute idle 0 route20).transparentIsQuiet ∧ (withRoute idle 0 route20).destinationsUnique ∧
    step (withRoute idle 0 route20) = .next (withRoute idle 0 route20).tick :=
  ⟨fun _ => quiet_of rfl rfl rfl rfl rfl rfl rfl rfl rfl rfl, unique_of rfl ⟨by decide, by decide⟩ (by decide) (by decide) rfl rfl, rfl⟩

/-- PassesStayOwned: a fill of port 0 and a slot that awaits its outcome. -/
theorem witness_PassesStayOwned :
    (let s := withSlot (withSlot busy 3 (filling notice)) 5 (awaiting none)
     s.transparentIsQuiet ∧ s.passesOwned ∧ step s = .next s.tick) :=
  ⟨fun h => absurd h busy_runs, (witness_FillIsAbandoned.1 (awaiting none) (by simp)).1, rfl⟩

/-- HeldAccessStaysOwned: a held landing write with its landing in the wait list. -/
theorem witness_HeldAccessStaysOwned : held.heldIsOwned ∧ step held = .next held.tick := by
  refine ⟨⟨by decide +kernel, ?_⟩, rfl⟩
  intro p
  have : ∀ p, held.awaitsLookup p = false := by decide
  rw [this]
  constructor
  · intro h; cases h
  · intro h
    obtain ⟨a, h⟩ := h
    cases h

end Sys2Proof.Tests
end

section
/-! PROOFS. Mesh-port writes to word 1 of a slot: which of them the slot awaits, and what becomes of the others (R19, R21). -/

namespace Sys2Proof.Machine

/-- The outcome that a slot awaits: all four bytes enabled, from the port whose pass has ended (R19). -/
theorem State.matchesOutcome_iff {s : State} {p : Port} {k : SlotNo} {be : Enables} :
    s.matchesOutcome p k be = true ↔
      be = 0xF#4 ∧ (s.slot k).state = .awaitingOutcome ∧ (s.slot k).passPort = some p := by
  simp [State.matchesOutcome, and_assoc]

/-- The class of a mesh port's write to word 1 (R19, R21). -/
theorem State.writeClass_outcome {s : State} {a : WriteAccess} {p : Port} {k : SlotNo}
    (h : s.meshAt a.initiator a.addr p k 1) :
    s.writeClass a = if s.matchesOutcome p k a.be then .matched p k else .unmatched p k := by
  rw [State.writeClass_mesh h, State.meshWriteClass, if_neg Nat.one_ne_zero, if_pos rfl]

/-- A write to word 1 that the slot does not await is an unmatched outcome (R21). -/
theorem State.writeClass_unmatched {s : State} {a : WriteAccess} {p : Port} {k : SlotNo}
    (h : s.meshAt a.initiator a.addr p k 1) (hm : ¬ s.matchesOutcome p k a.be = true) :
    s.writeClass a = .unmatched p k := by
  rw [State.writeClass_outcome h, if_neg hm]

/-- On a free port the row gives an unmatched outcome write its own effect (R21). -/
theorem exec_unmatchedOutcome {s : State} {a : WriteAccess} {p : Port} {k : SlotNo}
    (hf : s.bus.held = none) (hc : s.writeClass a = .unmatched p k) :
    exec (.unmatchedOutcome a) s = .next (s.unmatchedAccess a) := by
  have hx : exec (.unmatchedOutcome a) s = execUnmatchedOutcome a s := rfl
  rw [hx, execUnmatchedOutcome, State.onPort_free hf]
  simp only [hc]

/-- An unmatched outcome changes memory and counter 11 alone (R21). -/
theorem State.unmatchedAccess_eq (s : State) (a : WriteAccess) :
    s.unmatchedAccess a =
      { s with
        mem := s.mem.writeWord a.addr a.data a.be
        counters := countedAt s.counters Counter.outcomesLost.ix } := by
  rw [State.unmatchedAccess, State.count_eq]
  rfl

/-- Settles O30: none of the three cases meets what a slot awaits, so the write's class is the unmatched outcome. -/
theorem unmatchedOutcomeIsCountedAlone : Obligations.UnmatchedOutcomeIsCountedAlone := by
  intro a p k s hmesh hcase
  have hm : ¬ s.matchesOutcome p k a.be = true := by
    rw [State.matchesOutcome_iff]
    rintro ⟨hbe, hstate, hport⟩
    rcases hcase with h | h | h
    · exact h hstate
    · exact h hport
    · exact h hbe
  rw [exec_unmatchedOutcome hmesh.1.1 (State.writeClass_unmatched hmesh hm), State.unmatchedAccess_eq]
  rfl

end Sys2Proof.Machine
end

section
/-! PROOFS. Route candidates: a live link, the lag window, a candidate's total, and eligibility from the three (R94, R106). -/

namespace Sys2Proof.Machine

@[simp] theorem State.isLive_iff {s : State} {i : LinkIx} : s.isLive i = true ↔ (s.link i).state = .live := by
  simp [State.isLive]

/-- The lag window is a difference of halves, so it is taken across the wrap (R106). -/
@[simp] theorem withinLag_iff {latest heard : Half} : withinLag latest heard = true ↔ (latest - heard).toNat ≤ 2 := by
  simp [withinLag]

/-- The cap on a total is the unreachable cost (R94). -/
theorem State.candidateTotal_eq (s : State) (c : Candidate) :
    s.candidateTotal c = min 65535 (c.stamp + (s.link c.link).cost) := rfl

/-- The three conditions of R106, in the model's names. -/
theorem State.eligible_some_iff {s : State} {q : Half} {c : Candidate} :
    s.eligible (some q) c = true ↔
      s.isLive c.link = true ∧ s.candidateTotal c < 65535 ∧ withinLag q c.heard = true := by
  rw [State.eligible, Bool.and_eq_true, Bool.and_eq_true, decide_eq_true_iff, and_assoc]

/-- Settles O48: each of the three conditions that eligibility is made of says what R106 says of it. -/
theorem eligibilityIsR106 : Obligations.EligibilityIsR106 := by
  refine ⟨fun s q c => ?_, ?wrapWithin, ?wrapBeyond⟩
  · rw [State.eligible_some_iff, State.isLive_iff, State.candidateTotal_eq, withinLag_iff]
  case wrapWithin => rw [withinLag_iff]; decide
  case wrapBeyond => rw [Bool.eq_false_iff, ne_eq, withinLag_iff]; decide

end Sys2Proof.Machine
end

section
/-! PROOFS. SET EVENTS: its 4-bit fields as numbers, the clamp to 7, the event unit it leaves and the result it gives (R170). -/

namespace Sys2Proof.Machine

/-- The `k`-th of a word's eight 4-bit fields, the highest first, as a number. -/
theorem nibble_toNat (w : Word) {k : Nat} (hk : k < 8) :
    (bitField w (28 - 4 * k) 4).toNat = w.toNat / 16 ^ (7 - k) % 16 := by
  have hpow : 2 ^ (28 - 4 * k) = 16 ^ (7 - k) := by
    rw [show 28 - 4 * k = 4 * (7 - k) by omega, Nat.pow_mul]
  rw [← hpow]
  exact numField_eq w (28 - 4 * k) 4

/-- A source's priority field holds its priority number: eight sources lie in A1 and four in A2. -/
theorem priorityField_toNat (a1 a2 : Word) (k : Fin 12) : (priorityField a1 a2 k).toNat = priorityNumber a1 a2 k := by
  unfold priorityField priorityNumber
  split
  case isTrue h => exact nibble_toNat a1 h
  case isFalse => exact nibble_toNat a2 (by omega)

/-- The threshold field is the lowest of A2. -/
theorem thresholdField_toNat (a2 : Word) : (bitField a2 0 4).toNat = a2.toNat % 16 := by
  simpa using nibble_toNat a2 (k := 7) (by omega)

/-- The clamp keeps a field up to 7 and brings every other down to 7 (R170). -/
theorem clampPriority_val (f : BitVec 4) : (clampPriority f).val = min 7 f.toNat := by
  unfold clampPriority
  split
  case isTrue h => exact (Nat.min_eq_right (Nat.le_of_lt_succ h)).symm
  case isFalse h => exact (Nat.min_eq_left (by omega)).symm

/-- A source after SET EVENTS: a new priority under the old flags (R170, R182). -/
theorem EventUnit.withPriorities_at (u : EventUnit) (a1 a2 : Word) (k : Fin 12) :
    (u.withPriorities a1 a2).at k = { u.at k with priority := clampPriority (priorityField a1 a2 k) } := by
  simp [EventUnit.withPriorities, EventUnit.at]

/-- The new priority of a source, as a number. -/
theorem EventUnit.withPriorities_priority (u : EventUnit) (a1 a2 : Word) (k : Fin 12) :
    ((u.withPriorities a1 a2).at k).priority.val = min 7 (priorityNumber a1 a2 k) := by
  rw [EventUnit.withPriorities_at, clampPriority_val, priorityField_toNat]

/-- The new threshold, as a number. -/
theorem EventUnit.withPriorities_threshold (u : EventUnit) (a1 a2 : Word) :
    (u.withPriorities a1 a2).threshold.val = min 7 (a2.toNat % 16) := by
  rw [EventUnit.withPriorities, clampPriority_val, thresholdField_toNat]

/-- SET EVENTS clamps a value exactly when a priority or the threshold is above 7. -/
theorem eventsClamped_iff (a1 a2 : Word) :
    eventsClamped a1 a2 = true ↔ (∃ k, 7 < priorityNumber a1 a2 k) ∨ 7 < a2.toNat % 16 := by
  have hthreshold : numField a2 0 4 = a2.toNat % 16 := thresholdField_toNat a2
  simp [eventsClamped, priorityField_toNat, hthreshold]

/-- A SET EVENTS that is taken completes with the new event unit and has no other effect (R163, R170). -/
theorem exec_setEvents_taken {s : State} (h : s.takesCommands) (go : GoAccess) :
    exec (.setEvents go) s =
      .next { s.completed 0x06 go.tag (clampedResult (eventsClamped s.mailbox[0] s.mailbox[1])) with
        events := s.events.withPriorities s.mailbox[0] s.mailbox[1] } := by
  have hx : exec (.setEvents go) s = execSetEvents go s := rfl
  rw [hx, execSetEvents, State.goWrite_taken h]
  rfl

/-- Settles O11: the event unit that SET EVENTS leaves is the witness, and its result is the one of `eventsClamped_iff`. -/
theorem setEventsWritesPriorities : Obligations.SetEventsWritesPriorities := by
  intro go s h
  refine ⟨s.events.withPriorities s.mailbox[0] s.mailbox[1], ?result, EventUnit.withPriorities_threshold .., fun k =>
    ⟨EventUnit.withPriorities_priority .., ?pending, ?inService⟩⟩
  case result => simp only [exec_setEvents_taken h, clampedResult, eventsClamped_iff]
  case pending => rw [EventUnit.withPriorities_at]
  case inService => rw [EventUnit.withPriorities_at]

end Sys2Proof.Machine
end

section
/-! PROOFS. The event unit: the flags of a source after an update, what a raise leaves, when a source is presentable, the pending
summary, and IRQ outside, during and at the end of a hardware reset (R158, R177 to R179). -/

namespace Sys2Proof.Machine

/-! ### One source after an update -/

/-- A source whose flags are replaced has the new flags. -/
@[simp] theorem EventUnit.at_put_same (u : EventUnit) (k : Fin 12) (f : EventFlags) : (u.put k f).at k = f := by
  simp [EventUnit.at, EventUnit.put]

/-- The other sources keep their flags. -/
theorem EventUnit.at_put_other (u : EventUnit) {j k : Fin 12} (f : EventFlags) (h : j ≠ k) :
    (u.put k f).at j = u.at j := by
  have hval : k.val ≠ j.val := fun h' => h (Fin.ext h'.symm)
  simp [EventUnit.at, EventUnit.put, Vector.getElem_set_ne _ _ hval]

/-- A source given the flags it has leaves the unit as it is. -/
@[simp] theorem EventUnit.put_at (u : EventUnit) (k : Fin 12) : u.put k (u.at k) = u := by
  simp [EventUnit.at, EventUnit.put]

/-- A raise of a source that is pending changes nothing (R178). -/
theorem State.raise_of_pending {s : State} {e : EventSource} (h : s.pendingOf e = true) : s.raise e = s := by
  have hflags : { s.events.at e.ix with pending := true } = s.events.at e.ix := by
    rw [← show (s.events.at e.ix).pending = true from h]
  rw [State.raise, hflags, EventUnit.put_at]

/-! ### Presentable sources and IRQ -/

/-- The three conditions of R179, as propositions. -/
theorem EventUnit.presentable_iff {u : EventUnit} {k : Fin 12} :
    u.presentable k = true ↔
      (u.at k).pending = true ∧ (u.at k).inService = false ∧ u.threshold < (u.at k).priority := by
  simp [EventUnit.presentable, and_assoc]

/-- A source in service is not presented (R178). -/
theorem EventUnit.not_presentable_of_inService {u : EventUnit} {k : Fin 12} (h : (u.at k).inService = true) :
    u.presentable k = false := by
  simp [EventUnit.presentable, h]

/-- A source whose priority is not above the threshold is not presented (R179). -/
theorem EventUnit.not_presentable_of_le {u : EventUnit} {k : Fin 12} (h : (u.at k).priority ≤ u.threshold) :
    u.presentable k = false := by
  simp [EventUnit.presentable, Fin.not_lt.2 h]

/-- The search over the sources finds a presentable one when there is one. -/
theorem EventUnit.anyPresentable_iff {u : EventUnit} : u.anyPresentable = true ↔ ∃ k, u.presentable k = true := by
  simp [EventUnit.anyPresentable]

/-- IRQ is asserted while some source is presentable and no hardware reset is on (R158, R179). -/
theorem State.irqAsserted_iff {s : State} :
    s.irqAsserted = true ↔ s.inReset = false ∧ ∃ k, s.events.presentable k = true := by
  simp [State.irqAsserted, EventUnit.anyPresentable_iff, and_comm]

/-- A hardware reset releases IRQ while it lasts (R158). -/
theorem State.irqAsserted_of_inReset {s : State} (h : s.inReset = true) : s.irqAsserted = false := by
  simp [State.irqAsserted, h]

/-- The event unit at its reset value presents nothing. -/
theorem EventUnit.reset_anyPresentable : EventUnit.reset.anyPresentable = false := by decide

/-- The end of a hardware reset leaves the event unit at its reset value, so IRQ stays released (R158). -/
theorem State.endReset_irqAsserted (s : State) (straps : Fin 8) (c : ResetCause) :
    (s.endReset straps c).irqAsserted = false := by
  have hevents : (s.endReset straps c).events = EventUnit.reset := rfl
  rw [State.irqAsserted, hevents, EventUnit.reset_anyPresentable, Bool.false_and]

/-! ### The resets -/

/-- Once power is applied a power-on reset is on. -/
theorem State.powerApplied_inReset (s : State) : s.powerApplied.inReset = true :=
  State.inReset_iff.2 (Or.inr (by simp [State.powerApplied]))

/-- Once RESET is low a hardware reset is on. -/
theorem State.resetAsserted_inReset (s : State) : s.resetAsserted.inReset = true :=
  State.inReset_iff.2 (Or.inl rfl)

/-- IRQ is released once supplies and oscillator are stable: the reset has ended, or it goes on while RESET is low. -/
theorem State.powerStable_irqAsserted (s : State) (straps : Fin 8) : (s.powerStable straps).irqAsserted = false := by
  unfold State.powerStable
  split
  case isTrue => exact State.irqAsserted_of_inReset (State.inReset_iff.2 (Or.inr (by simp)))
  case isFalse => exact State.endReset_irqAsserted ..

/-- IRQ is released when RESET goes high: the reset has ended, or it goes on while the supplies are not stable. -/
theorem State.resetReleased_irqAsserted {s : State} (h : s.bus.resetLow = true) (straps : Fin 8) :
    (s.resetReleased straps).irqAsserted = false := by
  rw [State.resetReleased, if_pos h]
  split
  next => exact State.endReset_irqAsserted ..
  next => exact State.endReset_irqAsserted ..
  next hrising => exact State.irqAsserted_of_inReset (State.inReset_iff.2 (Or.inr (by simp [hrising])))

/-! ### The pending summary -/

/-- A bit of packed fields is set when it is set in one of them. -/
theorem packed_getLsbD (ws : List Word) (n : Nat) : (packed ws).getLsbD n = ws.any (·.getLsbD n) := by
  have fold (w : Word) : (ws.foldl (fun w f => w ||| f) w).getLsbD n = (w.getLsbD n || ws.any (·.getLsbD n)) := by
    induction ws generalizing w with
    | nil => simp
    | cons f fs ih => rw [List.foldl_cons, ih, BitVec.getLsbD_or, List.any_cons, Bool.or_assoc]
  simp [packed, fold]

/-- A placed flag shows at its own bit alone. -/
theorem placeFlag_getLsbD {lo : Nat} (h : lo < 32) (b : Bool) (n : Nat) :
    (placeFlag lo b).getLsbD n = (b && decide (n = lo)) := by
  cases b
  case false => simp [placeFlag]
  case true =>
    have hone : place lo 1 = BitVec.twoPow 32 lo := by rw [place, BitVec.twoPow_eq]
    rw [placeFlag, if_pos rfl, hone, BitVec.getLsbD_twoPow]
    simp [h, eq_comm]

/-- Bit k + 1 of a summary is the flag of the source at place k (R177). -/
theorem EventUnit.summary_getLsbD (u : EventUnit) (f : EventFlags → Bool) (k : Fin 12) :
    (u.summary f).getLsbD (k.val + 1) = f (u.at k) := by
  have hbit (i : Fin 12) :
      (placeFlag (i.val + 1) (f (u.at i))).getLsbD (k.val + 1) = (f (u.at i) && decide (k = i)) := by
    rw [placeFlag_getLsbD (by omega)]
    simp [Fin.ext_iff]
  rw [EventUnit.summary, packed_getLsbD, List.any_map, Bool.eq_iff_iff]
  simp [hbit]

/-- Report word 38 shows the pending flag of every source; IRQ shows above them (Table 8). -/
theorem State.reportWord_pending (s : State) (k : Fin 12) :
    (s.reportWord 38).getLsbD (k.val + 1) = (s.events.at k).pending := by
  have hword : s.reportWord 38 = packed [s.events.summary EventFlags.pending, placeFlag 31 s.irqAsserted] := rfl
  have hirq : (placeFlag 31 s.irqAsserted).getLsbD (k.val + 1) = false := by
    rw [placeFlag_getLsbD (by omega), decide_eq_false (by omega), Bool.and_false]
  rw [hword, packed_getLsbD]
  simp [EventUnit.summary_getLsbD, hirq]

/-- Settles O9: a raise is one update of the unit, IRQ is a presentable source outside a hardware reset, and every reset row leaves
either a reset that is on or an event unit at its reset value. -/
theorem raisesAndIrq : Obligations.RaisesAndIrq := by
  refine ⟨fun s e => ⟨EventUnit.at_put_same .., fun k => EventUnit.at_put_other _ _, rfl, rfl, State.raise_of_pending⟩,
    State.reportWord_pending, fun u k => EventUnit.not_presentable_of_inService, fun s => ?irq, fun u k h => ?level, ?begins,
    fun straps s => ⟨⟨_, rfl, State.powerStable_irqAsserted s straps⟩,
      fun h => ⟨_, rfl, State.resetReleased_irqAsserted h straps⟩⟩⟩
  case irq =>
    rw [State.irqAsserted_iff, State.inReset_eq_false, and_assoc]
    simp only [EventUnit.presentable_iff]
  case level =>
    refine EventUnit.not_presentable_of_le ?_
    rcases h with hprio | hthreshold
    · rw [hprio]; exact Fin.zero_le _
    · rw [hthreshold]; exact Fin.le_last _
  case begins =>
    intro s c hc
    simp only [List.mem_cons, List.not_mem_nil, or_false] at hc
    rcases hc with rfl | rfl
    · exact ⟨_, rfl, State.irqAsserted_of_inReset s.resetAsserted_inReset⟩
    · exact ⟨_, rfl, State.irqAsserted_of_inReset s.powerApplied_inReset⟩

end Sys2Proof.Machine
end

section
/-! PROOFS. The claim word: the source that a claim read chooses, what the read does with it, and what a complete write does to the
source it names (R180, R181). -/

namespace Sys2Proof.Machine

/-! ### The choice of a claim read -/

/-- One source goes before another at a claim read: higher priority, or the lower number among equals (R180). -/
def EventUnit.before (u : EventUnit) (k j : Fin 12) : Prop :=
  (u.at j).priority < (u.at k).priority ∨ ((u.at j).priority = (u.at k).priority ∧ k ≤ j)

/-- Two sources that each go before the other are one. -/
theorem EventUnit.before_antisymm {u : EventUnit} {j k : Fin 12} (hjk : u.before j k) (hkj : u.before k j) : j = k := by
  unfold EventUnit.before at hjk hkj
  omega

/-- A claim read's order is transitive. -/
theorem EventUnit.before_trans {u : EventUnit} {i j k : Fin 12} (hij : u.before i j) (hjk : u.before j k) :
    u.before i k := by
  unfold EventUnit.before at *
  omega

/-- What a claim read chooses among the sources of a list: one that is presentable and goes before every presentable one, or none
when none is presentable. -/
def EventUnit.IsChoice (u : EventUnit) (is : List (Fin 12)) : Option (Fin 12) → Prop
  | none => ∀ i ∈ is, u.presentable i = false
  | some k => k ∈ is ∧ u.presentable k = true ∧ ∀ j ∈ is, u.presentable j = true → u.before k j

/-- One step of the model's search: the best so far against the next source. -/
def EventUnit.challenge (u : EventUnit) (best : Option (Fin 12)) (i : Fin 12) : Option (Fin 12) :=
  if u.presentable i then
    match best with
    | none => some i
    | some b => if (u.at b).priority < (u.at i).priority then some i else some b
  else best

/-- The model's choice searches all sources in number order. -/
theorem EventUnit.choice_eq_foldl (u : EventUnit) : u.choice = (List.finRange 12).foldl u.challenge none := rfl

/-- A source that is not presentable leaves the choice as it is. -/
theorem EventUnit.IsChoice.append_passed {u : EventUnit} {is : List (Fin 12)} {best : Option (Fin 12)} {i : Fin 12}
    (hc : u.IsChoice is best) (hi : u.presentable i = false) : u.IsChoice (is ++ [i]) best := by
  cases best with
  | none => simpa [EventUnit.IsChoice, or_imp, forall_and, hi] using hc
  | some b =>
    obtain ⟨hmem, hpres, hbest⟩ := hc
    exact ⟨List.mem_append_left _ hmem, hpres, by simpa [or_imp, forall_and, hi] using hbest⟩

/-- A presentable source that goes before every presentable one so far is the choice with it. -/
theorem EventUnit.IsChoice.append_wins {u : EventUnit} {is : List (Fin 12)} {i : Fin 12} (hi : u.presentable i = true)
    (hwins : ∀ j ∈ is, u.presentable j = true → u.before i j) : u.IsChoice (is ++ [i]) (some i) := by
  refine ⟨by simp, hi, fun j hj hpj => ?_⟩
  rcases List.mem_append.1 hj with hj | hj
  · exact hwins j hj hpj
  · rw [List.mem_singleton.1 hj]
    exact .inr ⟨rfl, Fin.le_refl i⟩

/-- The choice so far stays the choice with a source that it goes before. -/
theorem EventUnit.IsChoice.append_keeps {u : EventUnit} {is : List (Fin 12)} {b i : Fin 12}
    (hc : u.IsChoice is (some b)) (hbi : u.before b i) : u.IsChoice (is ++ [i]) (some b) := by
  obtain ⟨hmem, hpres, hbest⟩ := hc
  refine ⟨List.mem_append_left _ hmem, hpres, fun j hj hpj => ?_⟩
  rcases List.mem_append.1 hj with hj | hj
  · exact hbest j hj hpj
  · rwa [List.mem_singleton.1 hj]

/-- The model's step keeps the choice, when the next source has a higher number than those so far. -/
theorem EventUnit.IsChoice.challenge {u : EventUnit} {is : List (Fin 12)} {best : Option (Fin 12)} {i : Fin 12}
    (hc : u.IsChoice is best) (hlt : ∀ j ∈ is, j < i) : u.IsChoice (is ++ [i]) (u.challenge best i) := by
  unfold EventUnit.challenge
  split
  case isFalse hi => exact hc.append_passed (Bool.eq_false_iff.2 hi)
  case isTrue hi =>
    cases best with
    | none => exact .append_wins hi fun j hj hpj => absurd hpj (Bool.eq_false_iff.1 (hc j hj))
    | some b =>
      have ⟨hmem, _, hbest⟩ := hc
      dsimp only
      split
      case isTrue hprio => exact .append_wins hi fun j hj hpj => EventUnit.before_trans (.inl hprio) (hbest j hj hpj)
      case isFalse hprio =>
        have hle : (u.at i).priority ≤ (u.at b).priority := Fin.not_lt.1 hprio
        have hnum : b ≤ i := Fin.le_of_lt (hlt b hmem)
        exact hc.append_keeps ((Fin.lt_or_eq_of_le hle).imp_right fun heq => ⟨heq, hnum⟩)

/-- The search goes from the choice among a list to the choice among a longer one, in number order. -/
theorem EventUnit.IsChoice.foldl {u : EventUnit} {is js : List (Fin 12)} {best : Option (Fin 12)}
    (hc : u.IsChoice is best) (h : (is ++ js).Pairwise (· < ·)) : u.IsChoice (is ++ js) (js.foldl u.challenge best) := by
  induction js generalizing is best with
  | nil => rwa [List.append_nil]
  | cons j js ih =>
    have hlt : ∀ i ∈ is, i < j := fun i hi => (List.pairwise_append.1 h).2.2 i hi j (List.mem_cons_self ..)
    rw [← List.singleton_append, ← List.append_assoc] at h ⊢
    exact ih (hc.challenge hlt) h

/-- The model's choice is R180's, among all sources. -/
theorem EventUnit.choice_isChoice (u : EventUnit) : u.IsChoice (List.finRange 12) u.choice := by
  rw [EventUnit.choice_eq_foldl]
  have hnone : u.IsChoice [] none := fun _ hi => absurd hi List.not_mem_nil
  exact hnone.foldl (List.pairwise_lt_finRange 12)

/-- The presentable source that goes before every presentable source is the choice (R180). -/
theorem EventUnit.choice_eq_some {u : EventUnit} {k : Fin 12} (hk : u.presentable k = true)
    (hbest : ∀ j, u.presentable j = true → u.before k j) : u.choice = some k := by
  have hc := u.choice_isChoice
  cases hchoice : u.choice with
  | none =>
    rw [hchoice] at hc
    exact absurd hk (Bool.eq_false_iff.1 (hc k (List.mem_finRange k)))
  | some b =>
    rw [hchoice] at hc
    obtain ⟨-, hb, hbestb⟩ := hc
    rw [EventUnit.before_antisymm (hbestb k (List.mem_finRange k) hk) (hbest b hb)]

/-- With no presentable source there is no choice (R180). -/
theorem EventUnit.choice_eq_none {u : EventUnit} (h : ∀ k, u.presentable k = false) : u.choice = none := by
  have hc := u.choice_isChoice
  cases hchoice : u.choice with
  | none => rfl
  | some b =>
    rw [hchoice] at hc
    obtain ⟨-, hb, -⟩ := hc
    exact absurd hb (Bool.eq_false_iff.1 (h b))

/-! ### The claim read -/

/-- On a free port outside a hardware reset the row is a claim, whatever its byte enables (R180). -/
theorem exec_claimRead_free {s : State} (h : s.portFree) (i : Initiator) (be : Enables) :
    exec (.claimRead i be) s = .next s.claim := by
  have hx : exec (.claimRead i be) s = execClaimRead be s := rfl
  rw [hx, execClaimRead, State.onPort_free h.1, State.claimAccess, if_neg (by simp [h.2])]

/-- A claim read of a source takes it: its number is returned, it goes from pending to in service (R180). -/
theorem State.claim_of_choice {s : State} {k : Fin 12} (h : s.events.choice = some k) :
    s.claim =
      { s with
        bus := { s.bus with readData := BitVec.ofNat 32 (k.val + 1) }
        events := s.events.put k { s.events.at k with pending := false, inService := true } } := by
  have hword : place 0 (k.val + 1) = BitVec.ofNat 32 (k.val + 1) := BitVec.shiftLeft_zero _
  simp only [State.claim, h, hword]
  rfl

/-- A claim read of nothing returns 0 (R180). -/
theorem State.claim_of_no_choice {s : State} (h : s.events.choice = none) :
    s.claim = { s with bus := { s.bus with readData := 0 } } := by
  simp only [State.claim, h]
  rfl

/-! ### The complete write -/

/-- On a free port outside a hardware reset the write reaches memory and then the event unit (R2, R181). -/
theorem exec_completeWrite_free {s : State} (h : s.portFree) (i : Initiator) (d : Word) (be : Enables) :
    exec (.completeWrite i d be) s =
      .next (State.completeWord { s with mem := s.mem.writeWord (stripAddr s.bus.position 37) d be } d be) := by
  have hx : exec (.completeWrite i d be) s = execCompleteWrite d be s := rfl
  rw [hx, execCompleteWrite, State.onPort_free h.1, State.stripWrite_free h.2]

/-- With byte 3 enabled the word's byte 3 names the source (R181). -/
theorem State.completeWord_enabled (s : State) (d : Word) {be : Enables} (h : be.getLsbD 0 = true) :
    s.completeWord d be = s.completeSource (d.toNat % 256) := by
  have hbyte : numField d 0 8 = d.toNat % 256 := (numField_eq d 0 8).trans (by omega)
  rw [State.completeWord, if_pos h, hbyte]

/-- With byte 3 disabled the event unit takes nothing (R181). -/
theorem State.completeWord_disabled (s : State) (d : Word) {be : Enables} (h : be.getLsbD 0 = false) :
    s.completeWord d be = s := by
  rw [State.completeWord, if_neg (Bool.eq_false_iff.1 h)]

/-- Completing a source clears its in-service flag (R181). -/
theorem State.completeSource_named (s : State) (k : Fin 12) :
    s.completeSource (k.val + 1) = { s with events := s.events.put k { s.events.at k with inService := false } } := by
  rw [State.completeSource, dif_pos (by omega)]
  rfl

/-- A number that names no source completes nothing (R181). -/
theorem State.completeSource_unnamed (s : State) {n : Nat} (h : n = 0 ∨ 12 < n) : s.completeSource n = s := by
  rw [State.completeSource, dif_neg (by omega)]

/-- Completing a source that is not in service changes nothing (R181). -/
theorem State.completeSource_idle {s : State} {k : Fin 12} (h : (s.events.at k).inService = false) :
    s.completeSource (k.val + 1) = s := by
  have hflags : { s.events.at k with inService := false } = s.events.at k := by rw [← h]
  rw [State.completeSource_named, hflags, EventUnit.put_at]

/-- A complete write that names no source in service, or has byte 3 disabled, changes nothing (R181). -/
theorem State.completeWord_idle {s : State} {d : Word} {be : Enables}
    (h : be.getLsbD 0 = false ∨ d.toNat % 256 = 0 ∨ 12 < d.toNat % 256 ∨
      ∃ k : Fin 12, d.toNat % 256 = k.val + 1 ∧ (s.events.at k).inService = false) :
    s.completeWord d be = s := by
  cases hbe : be.getLsbD 0 with
  | false => exact s.completeWord_disabled d hbe
  | true =>
    rw [s.completeWord_enabled d hbe]
    rcases h with h | h | h | ⟨k, hk, hidle⟩
    · exact absurd hbe (Bool.eq_false_iff.1 h)
    · exact s.completeSource_unnamed (.inl h)
    · exact s.completeSource_unnamed (.inr h)
    · rw [hk, State.completeSource_idle hidle]

/-- Settles O10: the search of the claim read finds R180's choice, and the complete write's effect is that of the number in byte 3. -/
theorem claimReadAndCompleteWrite : Obligations.ClaimReadAndCompleteWrite := by
  refine ⟨fun i be s hfree => ⟨fun k hk hbest => ?taken, fun hnone => ?nothing⟩,
    fun i d be s hfree => ⟨fun k hbe hnum _ => ?completed, fun hidle => ?idle⟩⟩
  case taken => rw [exec_claimRead_free hfree, State.claim_of_choice (EventUnit.choice_eq_some hk hbest)]
  case nothing => rw [exec_claimRead_free hfree, State.claim_of_no_choice (EventUnit.choice_eq_none hnone)]
  case completed =>
    rw [exec_completeWrite_free hfree, State.completeWord_enabled _ d hbe, hnum, State.completeSource_named]
  case idle =>
    rw [exec_completeWrite_free hfree]
    exact congrArg _ (State.completeWord_idle hidle)

end Sys2Proof.Machine
end

section
/-! PROOFS. What a step comes to: the acts of the part, one for each effect that a row can have (O1, and the ground of the invariants). -/

namespace Sys2Proof.Machine

/-! ### Rows and the accesses they perform -/

/-- Two accesses that do the same in every state are one outcome on the port. -/
theorem next_onPort_congr {s : State} {f g : State → State} (h : ∀ t, f t = g t) :
    (Host.Outcome.next (s.onPort f) : Host.Outcome State Fault Refusal) = .next (s.onPort g) := by
  rw [funext h]

/-- A row that carries a write to a slot performs the write, whatever its class (log 3). -/
theorem exec_slotWriteRow {a : WriteAccess} {c : Instr} (h : c ∈ slotWriteRows a) (s : State) :
    exec c s = .next (s.onPort fun t => t.performWrite a) := by
  simp only [slotWriteRows, List.mem_cons, List.not_mem_nil, or_false] at h
  rcases h with rfl | rfl | rfl | rfl | rfl | rfl <;>
    · refine next_onPort_congr fun t => ?_
      unfold State.performWrite
      cases t.writeClass a <;> rfl

/-- A row that carries a read of a slot performs the read, whatever its class (log 3). -/
theorem exec_slotReadRow {a : ReadAccess} {c : Instr} (h : c ∈ slotReadRows a) (s : State) :
    exec c s = .next (s.onPort fun t => t.performRead a) := by
  simp only [slotReadRows, List.mem_cons, List.not_mem_nil, or_false] at h
  rcases h with rfl | rfl <;>
    · refine next_onPort_congr fun t => ?_
      unfold State.performRead
      cases t.readClass a <;> rfl

/-- The row of a listed command is a go write of its code, and its effect is the code's. -/
theorem exec_goForm {go : GoAccess} {g : Instr × Byte} (h : g ∈ goForms go) (s : State) :
    exec g.1 s = .next (s.onPort fun t => t.goWrite g.2 go.tag (commandBody g.2)) := by
  simp only [goForms, List.mem_cons, List.not_mem_nil, or_false] at h
  rcases h with rfl | rfl | rfl | rfl | rfl | rfl | rfl | rfl | rfl | rfl | rfl | rfl | rfl | rfl | rfl | rfl | rfl |
    rfl | rfl | rfl | rfl <;> rfl

/-! ### Classes of accesses -/

/-- What a mesh port's slot write can be, with what each class says of the slot (R9, R11, R12, R19, R21). -/
theorem State.meshWriteClass_cases (s : State) (p : Port) (k : SlotNo) (w : Nat) (be : Enables) :
    s.meshWriteClass p k w be = .plain ∨ (∃ h, s.meshWriteClass p k w be = .header p k h) ∨
    (s.meshWriteClass p k w be = .landing p k ∧ (s.slot k).fillingBy p = true) ∨
    (s.meshWriteClass p k w be = .stray p k ∧ (s.slot k).fillingBy p = false) ∨
    (s.meshWriteClass p k w be = .matched p k ∧ s.matchesOutcome p k be = true) ∨
    s.meshWriteClass p k w be = .unmatched p k := by
  unfold State.meshWriteClass
  split
  · cases hf : (s.slot k).fillingBy p <;> simp
  · split
    · cases hm : s.matchesOutcome p k be <;> simp
    · cases hh : headerIx w <;> simp

/-- What a write can be, with what each class says of the state. -/
theorem State.writeClass_cases (s : State) (a : WriteAccess) :
    s.writeClass a = .plain ∨ (∃ w, s.writeClass a = .strip w ∧ stripAddr s.bus.position w = a.addr) ∨
    (s.captures = true ∧
      ((∃ k w, s.writeClass a = .software k w) ∨ (∃ p k w, s.writeClass a = .header p k w) ∨
       (∃ p k, s.writeClass a = .landing p k ∧ (s.slot k).fillingBy p = true) ∨
       (∃ p k, s.writeClass a = .stray p k ∧ (s.slot k).fillingBy p = false) ∨
       (∃ p k, s.writeClass a = .matched p k ∧ s.matchesOutcome p k a.be = true) ∨
       ∃ p k, s.writeClass a = .unmatched p k)) := by
  unfold State.writeClass
  cases hs : stripWordOf s.bus.position a.addr with
  | some w => exact .inr (.inl ⟨w, rfl, stripAddr_of_stripWordOf hs⟩)
  | none =>
    cases hc : s.captures with
    | false => simp
    | true =>
      cases s.slotOf a.addr with
      | none => simp
      | some kw =>
        obtain ⟨k, w⟩ := kw
        cases s.role a.initiator with
        | ignored => simp
        | software =>
          dsimp only
          unfold softwareWriteClass
          cases headerIx w <;> simp
        | mesh p =>
          dsimp only [if_true]
          rcases s.meshWriteClass_cases p k w a.be with h | ⟨i, h⟩ | ⟨h, hf⟩ | ⟨h, hf⟩ | ⟨h, hf⟩ | h
          · exact .inl h
          · exact .inr (.inr ⟨rfl, .inr (.inl ⟨p, k, i, h⟩)⟩)
          · exact .inr (.inr ⟨rfl, .inr (.inr (.inl ⟨p, k, h, hf⟩))⟩)
          · exact .inr (.inr ⟨rfl, .inr (.inr (.inr (.inl ⟨p, k, h, hf⟩)))⟩)
          · exact .inr (.inr ⟨rfl, .inr (.inr (.inr (.inr (.inl ⟨p, k, h, hf⟩))))⟩)
          · exact .inr (.inr ⟨rfl, .inr (.inr (.inr (.inr (.inr ⟨p, k, h⟩))))⟩)

/-- What a read can be, with what each class says of the state. -/
theorem State.readClass_cases (s : State) (a : ReadAccess) :
    s.readClass a = .plain ∨ (s.readClass a = .claim ∧ s.inReset = false) ∨ (∃ w, s.readClass a = .report w) ∨
    (s.captures = true ∧
      ((∃ p k, s.readClass a = .passStart p k ∧ (s.slot k).state.startsPass = true) ∨
       ∃ p k w, s.readClass a = .passWord p k w ∧ w ≠ 0 ∧ (s.slot k).state = .inSend ∧
        (s.slot k).passPort = some p)) := by
  unfold State.readClass
  cases hs : stripWordOf s.bus.position a.addr with
  | some w =>
    dsimp only
    unfold State.stripReadClass
    cases hr : s.inReset with
    | true => simp
    | false =>
      by_cases h1 : w.val = Config.claimWord
      · simp [h1]
      · by_cases h2 : 32 ≤ w.val ∧ w.val ≤ 127 <;> simp [h1, h2]
  | none =>
    cases hc : s.captures with
    | false => simp
    | true =>
      cases s.slotOf a.addr with
      | none => simp
      | some kw =>
        obtain ⟨k, w⟩ := kw
        cases s.role a.initiator with
        | ignored => simp
        | software => simp
        | mesh p =>
          dsimp only [if_true]
          unfold State.meshReadClass
          cases headerIx w with
          | none => simp
          | some i =>
            by_cases hi : i = 0
            · cases hp : (s.slot k).state.startsPass with
              | false => simp [hi]
              | true => exact .inr (.inr (.inr ⟨rfl, .inl ⟨p, k, by simp [hi], hp⟩⟩))
            · by_cases hp : (s.slot k).state = .inSend ∧ (s.slot k).passPort = some p
              · exact .inr (.inr (.inr ⟨rfl, .inr ⟨p, k, i, by simp [hi, hp], hi, hp⟩⟩))
              · simp [hi, hp]

/-! ### The acts of the part -/

/-- What the part can do in one step, apart from the queue: an act of each kind that a row can come to, with what its row's own tests
have established. A row whose occasion is absent comes to `waits`. -/
inductive Move (s : State) : State → Prop
  | waits : Move s s
  | tick : Move s s.tick
  | power (m : PowerMoment) : Move s (s.powerOn m)
  | resetLow : Move s s.resetAsserted
  | resetHigh (straps : Fin 8) : Move s (s.resetReleased straps)
  | write (a : WordAddr) (d : Word) (be : Enables) (free : s.bus.held = none) : Move s (s.writeMem a d be)
  | latch (a : WordAddr) (l : Fin 6) (d : Word) (be : Enables) (free : s.portFree) :
      Move s ((s.writeMem a d be).latch l d be)
  | strayGo (a : WordAddr) (d : Word) (be : Enables) (free : s.portFree) :
      Move s ((s.writeMem a d be).count .strayGoWrites)
  | completeSource (a : WordAddr) (d : Word) (be : Enables) (n : Nat) (free : s.portFree) :
      Move s ((s.writeMem a d be).completeSource n)
  | busy (a : WordAddr) (d : Word) (be : Enables) (code tag : Byte) (free : s.portFree) :
      Move s ((s.writeMem a d be).busy code tag)
  | command (a : WordAddr) (d : Word) (be : Enables) (code tag : Byte) (takes : s.takesCommands) :
      Move s (commandBody code ((s.writeMem a d be).taken code tag))
  | answer (w : Word) (free : s.bus.held = none) : Move s (s.answer w)
  | claim (free : s.portFree) : Move s s.claim
  | software (k : SlotNo) (w : HeaderIx) (a : WriteAccess) (free : s.portFree) (runs : s.engineRuns = true) :
      Move s (s.softwareAccess k w a)
  | header (p : Port) (k : SlotNo) (w : HeaderIx) (a : WriteAccess) (free : s.portFree)
      (runs : s.engineRuns = true) : Move s (s.headerAccess p k w a)
  | landing (p : Port) (k : SlotNo) (a : WriteAccess) (free : s.portFree) (runs : s.engineRuns = true)
      (fills : (s.slot k).fillingBy p = true) : Move s (s.land p k a)
  | strayLanding (p : Port) (k : SlotNo) (a : WriteAccess) (free : s.portFree) (runs : s.engineRuns = true)
      (fills : (s.slot k).fillingBy p = false) : Move s (s.landStray p k a)
  | matched (p : Port) (k : SlotNo) (a : WriteAccess) (free : s.portFree) (runs : s.engineRuns = true)
      (awaited : s.matchesOutcome p k a.be = true) : Move s (s.matchedAccess k a)
  | unmatched (a : WriteAccess) (free : s.portFree) (runs : s.engineRuns = true) : Move s (s.unmatchedAccess a)
  | passStart (p : Port) (k : SlotNo) (a : WordAddr) (free : s.portFree) (runs : s.engineRuns = true)
      (starts : (s.slot k).state.startsPass = true) : Move s (s.beginPass p k a)
  | passWord (p : Port) (k : SlotNo) (w : HeaderIx) (a : WordAddr) (free : s.portFree) (runs : s.engineRuns = true)
      (word : w ≠ 0) (sends : (s.slot k).state = .inSend) (port : (s.slot k).passPort = some p) :
      Move s (s.readPassWord p k w a)
  | pinStep (granted : s.granted .command = true) (code : s.command.code = 0x20) :
      Move s s.afterOtherStep.pinStepBody
  | unpinStep (granted : s.granted .command = true) (code : s.command.code = 0x21) :
      Move s s.afterOtherStep.unpinStepBody
  | readRouteStep (granted : s.granted .command = true) (code : s.command.code = 0x30) :
      Move s s.afterOtherStep.readRouteStepBody
  | readWantedStep (granted : s.granted .command = true) (code : s.command.code = 0x33) :
      Move s s.afterOtherStep.readWantedStepBody
  | releaseWantedStep (granted : s.granted .command = true) (code : s.command.code = 0x34) :
      Move s s.afterOtherStep.releaseWantedStepBody
  | takeWaiting (l : Landing) (ls : List Landing) (live : s.inReset = false) (idle : s.verdicts.work = none)
      (waiting : s.verdicts.waiting = l :: ls) :
      Move s (State.runStages { s with verdicts := { s.verdicts with waiting := ls } } l)
  | landingHoldExpiry : Move s s.landingHoldExpiry
  | learn (l : Landing) (m : PortMask) (perm : Bool) (granted : s.granted .verdict = true)
      (work : s.verdicts.work = some { landing := l, phase := .learning m perm }) : Move s (s.learn l m perm)
  | choose (l : Landing) (m : PortMask) (perm : Bool) (i : LinkIx) (first : Option Requester)
      (granted : s.granted .verdict = true)
      (work : s.verdicts.work = some { landing := l, phase := .choosing m perm i first }) :
      Move s (s.choose l m perm i)
  | lookup (l : Landing) (granted : s.granted .verdict = true)
      (work : s.verdicts.work = some { landing := l, phase := .lookup }) : Move s (s.lookupForward l)
  | passLookup (p : Port) (b : Binding) (granted : s.granted .overlay = true) (awaits : s.awaitsLookup p = true)
      (bound : s.binding p = some b) : Move s (s.afterOtherStep.answerLookup p b)
  | passStartHoldExpiry : Move s s.passStartHoldExpiry
  | deadline (k : SlotNo) (t : Nat) (live : s.inReset = false) (state : (s.slot k).state = .awaitingOutcome)
      (due : (s.slot k).deadline = some t) :
      Move s (((s.reach t).setSlot k (s.slot k).waitOver).count .outcomesLost)
  | outcomeJob (o : OutcomeEntry) (rest : List OutcomeEntry) (live : s.inReset = false)
      (queue : s.outcomes = o :: rest) : Move s (State.applyOutcome { s with outcomes := rest } o)
  | sampleExpiry (live : s.inReset = false) (t : Nat) (due : s.engine.nextExpiry = some t) : Move s s.sampleExpiry
  | sweepBegin (live : s.inReset = false) (request : s.metric.request = true) :
      Move s { s with metric := { sweep := some 0, request := false } }
  | sweepVisit (i : LinkIx) (live : s.inReset = false) (sweep : s.metric.sweep = some i) :
      Move s ((s.visitLink i).advanceSweep i)
  | purgeWindow (live : s.inReset = false) (t : Nat) (due : s.purge.window = some t) : Move s s.purgeWindowExpiry
  | walkerStep (w : Walk) (granted : s.granted .walker = true) (walk : s.walker.walk = some w) :
      Move s ((s.afterOtherStep.walkEntry w).advanceWalk w)

/-- Slot Capture receives accesses while the engine runs and no hardware reset is on (R6, R158). -/
theorem State.captures_iff {s : State} : s.captures = true ↔ s.engineRuns = true ∧ s.inReset = false := by
  simp [State.captures]

/-- A write to a strip word is an act. -/
theorem Move.of_stripWrite {s : State} (w : Fin 256) (d : Word) (be : Enables) (f : State → State)
    (free : s.bus.held = none)
    (h : s.portFree → Move s (f (s.writeMem (stripAddr s.bus.position w) d be))) : Move s (s.stripWrite w d be f) := by
  cases hr : s.inReset with
  | true =>
    rw [State.stripWrite_reset hr]
    exact .write _ d be free
  | false =>
    rw [State.stripWrite_free hr]
    exact h ⟨free, hr⟩

/-- A go write that passes the form test is an act. -/
theorem Move.of_takeCommand {s : State} (a : WordAddr) (d : Word) (be : Enables) (code tag : Byte) (free : s.portFree) :
    Move s ((s.writeMem a d be).takeCommand code tag (commandBody code)) := by
  unfold State.takeCommand
  split
  case isTrue => exact .busy a d be code tag free
  case isFalse h => exact .command a d be code tag ⟨free, by simpa using h⟩

/-- A write to word 0 is an act. -/
theorem Move.of_wordZero {s : State} (a : WordAddr) (d : Word) (be : Enables) (x : Word) (y : Enables)
    (free : s.portFree) : Move s ((s.writeMem a d be).wordZero x y) := by
  unfold State.wordZero
  split
  · exact .of_takeCommand a d be _ _ free
  · exact .strayGo a d be free

/-- A complete write is an act. -/
theorem Move.of_completeWord {s : State} (a : WordAddr) (d : Word) (be : Enables) (x : Word) (y : Enables)
    (free : s.portFree) : Move s ((s.writeMem a d be).completeWord x y) := by
  unfold State.completeWord
  split
  · exact .completeSource a d be _ free
  · exact .write a d be free.1

/-- Any write to the strip is an act. -/
theorem Move.of_anyStripWrite {s : State} (w : Fin 256) (d : Word) (be : Enables) (free : s.bus.held = none) :
    Move s (s.anyStripWrite w d be) := by
  refine .of_stripWrite w d be _ free fun hp => ?_
  unfold State.stripEffect
  split
  · exact .of_wordZero _ d be d be hp
  · split
    · exact .latch _ _ d be hp
    · split
      · exact .of_completeWord _ d be d be hp
      · exact .write _ d be free

/-- A write with the effect of its class is an act. -/
theorem Move.of_performWrite {s : State} (a : WriteAccess) (free : s.bus.held = none) : Move s (s.performWrite a) := by
  have slot (hc : s.captures = true) : s.engineRuns = true ∧ s.portFree :=
    ⟨(State.captures_iff.1 hc).1, free, (State.captures_iff.1 hc).2⟩
  unfold State.performWrite
  rcases s.writeClass_cases a with h | ⟨w, h, -⟩ | ⟨hc, h⟩
  · rw [h]; exact .write _ _ _ free
  · rw [h]; exact .of_anyStripWrite w _ _ free
  · obtain ⟨runs, free⟩ := slot hc
    rcases h with ⟨k, w, h⟩ | ⟨p, k, w, h⟩ | ⟨p, k, h, hf⟩ | ⟨p, k, h, hf⟩ | ⟨p, k, h, hm⟩ | ⟨p, k, h⟩ <;> rw [h]
    · exact .software k w a free runs
    · exact .header p k w a free runs
    · exact .landing p k a free runs hf
    · exact .strayLanding p k a free runs hf
    · exact .matched p k a free runs hm
    · exact .unmatched a free runs

/-- A read with the effect of its class is an act. -/
theorem Move.of_performRead {s : State} (a : ReadAccess) (free : s.bus.held = none) : Move s (s.performRead a) := by
  unfold State.performRead
  rcases s.readClass_cases a with h | ⟨h, hr⟩ | ⟨w, h⟩ | ⟨hc, h⟩
  · rw [h]; exact .answer _ free
  · rw [h]; exact .claim ⟨free, hr⟩
  · rw [h]; exact .answer _ free
  · obtain ⟨runs, hr⟩ := State.captures_iff.1 hc
    rcases h with ⟨p, k, h, hp⟩ | ⟨p, k, w, h, hw, hs, hp⟩ <;> rw [h]
    · exact .passStart p k _ ⟨free, hr⟩ runs hp
    · exact .passWord p k w _ ⟨free, hr⟩ runs hw hs hp

/-- An access that the port takes is an act when it is one on a free port; else it waits (log 2). -/
theorem Move.of_onPort {s : State} {f : State → State} (h : s.bus.held = none → Move s (f s)) :
    Move s (s.onPort f) := by
  cases hh : s.bus.held with
  | none => rw [State.onPort_free hh]; exact h hh
  | some x => rw [State.onPort_held hh]; exact .waits

/-- A go write is an act. -/
theorem Move.of_goWrite (s : State) (code tag : Byte) :
    Move s (s.onPort fun t => t.goWrite code tag (commandBody code)) :=
  .of_onPort fun free => .of_stripWrite _ _ _ _ free fun hp => .of_takeCommand _ _ _ code tag hp

/-- A class-3 step is an act: the step of its command, or nothing. -/
theorem Move.of_commandStep {s : State} {code : Byte} {f : State → State}
    (h : s.granted .command = true → s.command.code = code → Move s (f s.afterOtherStep)) :
    Move s (s.commandStep code f) := by
  unfold State.commandStep
  split
  case isTrue hg =>
    simp only [Bool.and_eq_true, beq_iff_eq] at hg
    exact h hg.1 hg.2
  case isFalse => exact .waits

/-- The take of a waiting landing is an act. -/
theorem Move.of_takeWaiting (s : State) : Move s s.takeWaiting := by
  unfold State.takeWaiting
  split
  case isTrue => exact .waits
  case isFalse h =>
    simp only [Bool.or_eq_true, not_or, Bool.not_eq_true, Option.isSome_eq_false_iff, Option.isNone_iff_eq_none] at h
    split
    · exact .waits
    · exact .takeWaiting _ _ h.1 h.2 ‹_›

/-- The learning step is an act. -/
theorem Move.of_learningStep (s : State) : Move s s.learningStep := by
  unfold State.learningStep
  split
  · split
    · exact .learn _ _ _ ‹_› ‹_›
    · exact .waits
  · exact .waits

/-- The choosing step is an act. -/
theorem Move.of_choosingStep (s : State) : Move s s.choosingStep := by
  unfold State.choosingStep
  split
  · split
    · exact .choose _ _ _ _ _ ‹_› ‹_›
    · exact .waits
  · exact .waits

/-- The forwarding lookup is an act. -/
theorem Move.of_lookupStep (s : State) : Move s s.lookupStep := by
  unfold State.lookupStep
  split
  · split
    · exact .lookup _ ‹_› ‹_›
    · exact .waits
  · exact .waits

/-- The pass-start lookup is an act. -/
theorem Move.of_lookupPassStart (s : State) : Move s s.lookupPassStart := by
  unfold State.lookupPassStart
  split
  case isTrue hg =>
    split
    · exact .waits
    next p hp =>
      split
      · exact .waits
      next b hb => exact .passLookup p b hg (List.find?_some hp) hb
  case isFalse => exact .waits

/-- An outcome deadline's expiry is an act. -/
theorem Move.of_expireDeadline (s : State) (k : SlotNo) : Move s (s.expireDeadline k) := by
  unfold State.expireDeadline
  split
  · exact .waits
  next hr =>
    dsimp only
    split
    · exact .deadline k _ (Bool.eq_false_iff.2 hr) ‹_› ‹_›
    · exact .waits

/-- An outcome job is an act. -/
theorem Move.of_outcomeJob (s : State) : Move s s.outcomeJob := by
  unfold State.outcomeJob
  split
  · exact .waits
  next h =>
    simp only [Bool.or_eq_true, not_or, Bool.not_eq_true] at h
    split
    · exact .waits
    · exact .outcomeJob _ _ h.2 ‹_›

/-- The sample timer's expiry is an act. -/
theorem Move.of_sampleExpiry (s : State) : Move s s.sampleExpiry := by
  cases hr : s.inReset with
  | true => rw [State.sampleExpiry, if_pos hr]; exact .waits
  | false =>
    cases ht : s.engine.nextExpiry with
    | none => simp only [State.sampleExpiry, hr, ht]; exact .waits
    | some t => exact .sampleExpiry hr t ht

/-- A sweep's beginning is an act. -/
theorem Move.of_sweepBegin (s : State) : Move s s.sweepBegin := by
  unfold State.sweepBegin
  split
  case isTrue h =>
    simp only [Bool.and_eq_true, Bool.not_eq_true'] at h
    exact .sweepBegin h.2 h.1.1
  case isFalse => exact .waits

/-- A sweep visit is an act. -/
theorem Move.of_sweepVisit (s : State) : Move s s.sweepVisit := by
  unfold State.sweepVisit
  split
  · exact .waits
  next hr =>
    split
    · exact .waits
    · exact .sweepVisit _ (Bool.eq_false_iff.2 hr) ‹_›

/-- The purge window's expiry is an act. -/
theorem Move.of_purgeWindowExpiry (s : State) : Move s s.purgeWindowExpiry := by
  cases hr : s.inReset with
  | true => rw [State.purgeWindowExpiry, if_pos hr]; exact .waits
  | false =>
    cases ht : s.purge.window with
    | none => simp only [State.purgeWindowExpiry, hr, ht]; exact .waits
    | some t => exact .purgeWindow hr t ht

/-- A walker step is an act. -/
theorem Move.of_walkerStep (s : State) : Move s s.walkerStep := by
  unfold State.walkerStep
  split
  case isTrue hg =>
    split
    · exact .waits
    · exact .walkerStep _ hg ‹_›
  case isFalse => exact .waits

/-- Every row comes to an act of the part. -/
theorem exec_move (c : Instr) (s : State) : ∃ t, exec c s = .next t ∧ Move s t := by
  have go {g : Instr} {code tag : Byte}
      (h : exec g s = .next (s.onPort fun t => t.goWrite code tag (commandBody code))) : ∃ t, exec g s = .next t ∧ Move s t :=
    ⟨_, h, .of_goWrite s code tag⟩
  have write {g : Instr} {a : WriteAccess} (h : g ∈ slotWriteRows a) : ∃ t, exec g s = .next t ∧ Move s t :=
    ⟨_, exec_slotWriteRow h s, .of_onPort fun free => .of_performWrite a free⟩
  have read {g : Instr} {a : ReadAccess} (h : g ∈ slotReadRows a) : ∃ t, exec g s = .next t ∧ Move s t :=
    ⟨_, exec_slotReadRow h s, .of_onPort fun free => .of_performRead a free⟩
  cases c with
  | powerOnReset m => exact ⟨_, rfl, .power m⟩
  | resetLineAsserted => exact ⟨_, rfl, .resetLow⟩
  | resetLineReleased straps => exact ⟨_, rfl, .resetHigh straps⟩
  | argumentWordWrite i l d be =>
    exact ⟨_, rfl, .of_onPort fun free => .of_stripWrite _ d be _ free fun hp => .latch _ l d be hp⟩
  | strayGoWrite i d be =>
    exact ⟨_, rfl, .of_onPort fun free => .of_stripWrite _ d be _ free fun hp => .of_wordZero _ d be d be hp⟩
  | unknownCommand g code => exact go rfl
  | setIdentity g => exact go (code := 0x01) (tag := g.tag) rfl
  | setRegion g => exact go (code := 0x02) (tag := g.tag) rfl
  | setRoles g => exact go (code := 0x03) (tag := g.tag) rfl
  | setTiming g => exact go (code := 0x04) (tag := g.tag) rfl
  | setMetric g => exact go (code := 0x05) (tag := g.tag) rfl
  | setEvents g => exact go (code := 0x06) (tag := g.tag) rfl
  | start g => exact go (code := 0x10) (tag := g.tag) rfl
  | stop g => exact go (code := 0x11) (tag := g.tag) rfl
  | restart g => exact go (code := 0x12) (tag := g.tag) rfl
  | pinRoute g => exact go (code := 0x20) (tag := g.tag) rfl
  | pinRouteStep => exact ⟨_, rfl, .of_commandStep .pinStep⟩
  | unpin g => exact go (code := 0x21) (tag := g.tag) rfl
  | unpinStep => exact ⟨_, rfl, .of_commandStep .unpinStep⟩
  | purgeAdd g => exact go (code := 0x22) (tag := g.tag) rfl
  | purgeCancel g => exact go (code := 0x23) (tag := g.tag) rfl
  | unbar g => exact go (code := 0x24) (tag := g.tag) rfl
  | flushRoutes g => exact go (code := 0x25) (tag := g.tag) rfl
  | readRoute g => exact go (code := 0x30) (tag := g.tag) rfl
  | readRouteStep => exact ⟨_, rfl, .of_commandStep .readRouteStep⟩
  | readLink g => exact go (code := 0x31) (tag := g.tag) rfl
  | readSlot g => exact go (code := 0x32) (tag := g.tag) rfl
  | readWanted g => exact go (code := 0x33) (tag := g.tag) rfl
  | readWantedStep => exact ⟨_, rfl, .of_commandStep .readWantedStep⟩
  | releaseWanted g => exact go (code := 0x34) (tag := g.tag) rfl
  | releaseWantedStep => exact ⟨_, rfl, .of_commandStep .releaseWantedStep⟩
  | clearCounters g => exact go (code := 0x35) (tag := g.tag) rfl
  | claimRead i be =>
    refine ⟨_, rfl, .of_onPort fun free => ?_⟩
    unfold State.claimAccess
    split
    · exact .answer _ free
    next hr => exact .claim ⟨free, Bool.eq_false_iff.2 hr⟩
  | completeWrite i d be =>
    exact ⟨_, rfl, .of_onPort fun free => .of_stripWrite _ d be _ free fun hp => .of_completeWord _ d be d be hp⟩
  | reportWindowWrite i w d be => exact ⟨_, rfl, .of_onPort fun free => .of_anyStripWrite w d be free⟩
  | receiveHeaderWrite a => exact write (a := a) (by simp [slotWriteRows])
  | landing a => exact write (a := a) (by simp [slotWriteRows])
  | strayLanding a => exact write (a := a) (by simp [slotWriteRows])
  | verdictWaitListTake => exact ⟨_, rfl, .of_takeWaiting s⟩
  | landingHoldExpiry => exact ⟨_, rfl, .landingHoldExpiry⟩
  | noticeLearningStep => exact ⟨_, rfl, .of_learningStep s⟩
  | noticeChoosingStep => exact ⟨_, rfl, .of_choosingStep s⟩
  | forwardingLookup => exact ⟨_, rfl, .of_lookupStep s⟩
  | transmitPassStart a => exact read (a := a) (by simp [slotReadRows])
  | passStartLookup => exact ⟨_, rfl, .of_lookupPassStart s⟩
  | passStartHoldExpiry => exact ⟨_, rfl, .passStartHoldExpiry⟩
  | transmitWordRead a => exact read (a := a) (by simp [slotReadRows])
  | softwareHeaderWrite a => exact write (a := a) (by simp [slotWriteRows])
  | matchedOutcome a => exact write (a := a) (by simp [slotWriteRows])
  | unmatchedOutcome a => exact write (a := a) (by simp [slotWriteRows])
  | outcomeDeadlineExpiry k => exact ⟨_, rfl, .of_expireDeadline s k⟩
  | outcomeJob => exact ⟨_, rfl, .of_outcomeJob s⟩
  | sampleExpiry => exact ⟨_, rfl, .of_sampleExpiry s⟩
  | sweepBegin => exact ⟨_, rfl, .of_sweepBegin s⟩
  | sweepVisit => exact ⟨_, rfl, .of_sweepVisit s⟩
  | purgeWindowExpiry => exact ⟨_, rfl, .of_purgeWindowExpiry s⟩
  | walkerStep => exact ⟨_, rfl, .of_walkerStep s⟩

/-- A step is an act of the part on the state without the command it takes from the queue. -/
theorem move_of_step {s t : State} (h : step s = .next t) :
    ∃ rest, Move { s with pending := rest } t := by
  unfold step at h
  split at h
  case h_1 hp =>
    cases h
    exact ⟨s.pending, .tick⟩
  case h_2 c rest hp =>
    obtain ⟨u, hu, hm⟩ := exec_move c { s with pending := rest }
    rw [hu] at h
    cases h
    exact ⟨rest, hm⟩

/-- What every act keeps, and does not look at the queue, every step keeps. -/
theorem step_keeps {P : State → Prop} (hq : ∀ s rest, P s → P { s with pending := rest })
    (hm : ∀ s t, P s → Move s t → P t) {s t : State} (hs : P s) (h : step s = .next t) : P t := by
  obtain ⟨rest, hmove⟩ := move_of_step h
  exact hm _ _ (hq s rest hs) hmove

/-- Settles O1: the queue's front command is the one the step runs. -/
theorem stepRunsTheFrontCommand : Obligations.StepRunsTheFrontCommand := fun _ _ _ => rfl

end Sys2Proof.Machine
end

section
/-! PROOFS. The elementary changes that acts are made of: each table, list, set and number of the state has its own, with the guard
under which the part makes it. An invariant over these parts of the state is proved once for each change. -/

namespace Sys2Proof.Machine

/-! ### Guards -/

/-- Every waiting landing carries a signal level that a link may take (R35). -/
def State.signalsInRange (s : State) : Prop := ∀ l ∈ s.verdicts.waiting, -128 ≤ l.signal ∧ l.signal ≤ 127

/-- A PIN ROUTE that is RUNNING holds a cost and a port that a pin may have (R113). -/
def State.pinInRange (s : State) : Prop :=
  s.command.running = true → s.command.code = 0x20#8 → loHalf s.arg2 ≠ 0xFFFF#16 ∧ s.arg2.toNat / 0x1000000 ≤ 2

/-- What an update of a route entry in use keeps: its destination, that it is in use, the shape of the candidate list, the ranges;
and it names no link that is FREE, LOST or PURGING anew (R96, R97, R104, R107). -/
structure State.Rerouted (s : State) (e e' : RouteEntry) : Prop where
  dest : e'.dest = e.dest
  used : e.state ≠ .empty → e'.state ≠ .empty
  active : (e.state = .active ↔ e.primary.isSome = true) → (e'.state = .active ↔ e'.primary.isSome = true)
  length : e.candidates.length ≤ Config.maxCandidates → e'.candidates.length ≤ Config.maxCandidates
  nodup : (e.candidates.map fun c => c.link).Nodup → (e'.candidates.map fun c => c.link).Nodup
  names : ∀ i, e'.names i → e.names i ∨ (s.link i).state.estimated = true
  range : s.pinInRange → e.inRange → e'.inRange

/-- A link's update that keeps its name, and its ranges when the frames computed on carry signal levels in range. -/
structure State.Relinked (o s : State) (l l' : Link) : Prop where
  node : l'.node = l.node
  port : l'.port = l.port
  range : o.signalsInRange → s.settings.inRange → l.inRange → l'.inRange

/-- The state with everything of `t` that no table of the invariants rests on: the queue, the time base, the data lines, the held
access, slots, bindings, sweeps, timers, flags and report words. -/
def State.withOther (s t : State) : State :=
  { s with
    pending := t.pending, now := t.now
    bus := { s.bus with
      resetLow := t.bus.resetLow, power := t.bus.power, held := t.bus.held, readData := t.bus.readData }
    slots := t.slots, metric := t.metric, purge := { s.purge with window := t.purge.window }
    walker := { s.walker with refresh := t.walker.refresh, flush := t.walker.flush }
    overlay := t.overlay, engine := { s.engine with nextExpiry := t.engine.nextExpiry }, mailbox := t.mailbox
    command := { s.command with tag := t.command.tag, tagPresent := t.command.tagPresent, result := t.command.result }
    refusal := t.refusal, snapshot := t.snapshot, events := t.events }

/-! ### The changes -/

/-- One elementary change, made in state `s` of a step that began in state `o`. -/
inductive Change (o s : State) : State → Prop
  | other (t : State) (h : t = s.withOther t) : Change o s t
  | memory (a : WordAddr) (d : Word) (be : Enables) : Change o s (s.writeMem a d be)
  | count (c : Counter) : Change o s (s.count c)
  | clearCounters : Change o s { s with counters := Vector.replicate 16 0 }
  | queue (l : Landing) (room : s.verdicts.waiting.length < Config.maxWaiting)
      (signal : -128 ≤ l.signal ∧ l.signal ≤ 127) :
      Change o s { s with verdicts := { s.verdicts with waiting := s.verdicts.waiting ++ [l] } }
  | waiting (ls : List Landing) (f : Landing → Landing) (sub : ls.Sublist s.verdicts.waiting)
      (signal : ∀ l, (f l).signal = l.signal) : Change o s { s with verdicts := { s.verdicts with waiting := ls.map f } }
  | floodInsert (origin : Node) (seq : Half) (new : s.floodHolds origin seq = false) :
      Change o s { s with verdicts := { s.verdicts with flood := insertFlood s.verdicts.flood origin seq } }
  | floodAge : Change o s
      { s with verdicts := { s.verdicts with flood := ageFlood s.settings.floodLifetime s.verdicts.flood } }
  | floodClear : Change o s { s with verdicts := { s.verdicts with flood := [] } }
  | outcome (x : OutcomeEntry) (room : s.outcomes.length < Config.maxOutcomes) (attempts : x.attempts ≤ 15) :
      Change o s { s with outcomes := s.outcomes ++ [x] }
  | outcomes (xs : List OutcomeEntry) (sub : xs.Sublist s.outcomes) : Change o s { s with outcomes := xs }
  | purge (set : List LinkName) (bars : List Node) (subSet : set.Sublist s.purge.set)
      (subBars : bars.Sublist s.purge.bars) : Change o s { s with purge := { s.purge with set := set, bars := bars } }
  | purgeJoin (n : LinkName) (new : n ∉ s.purge.set) (room : s.purge.set.length < Config.maxPurge) :
      Change o s { s with purge := { s.purge with set := s.purge.set ++ [n] } }
  | barJoin (n : Node) (new : n ∉ s.purge.bars) (room : s.purge.bars.length < Config.maxBarred) :
      Change o s { s with purge := { s.purge with bars := s.purge.bars ++ [n] } }
  | wanted (ws : List WantedEntry) (sub : ws.Sublist s.wanted) : Change o s { s with wanted := ws }
  | wantedMap (f : WantedEntry → WantedEntry) (dest : ∀ w, (f w).dest = w.dest)
      (range : ∀ w, s.settings.inRange → w.inRange → (f w).inRange) : Change o s { s with wanted := s.wanted.map f }
  | wantedJoin (d : Node) (new : s.wants d = false) (room : s.wanted.length < Config.maxWanted) :
      Change o s { s with wanted := s.wanted ++ [{ dest := d, state := .waiting, age := 0, frames := 1 }] }
  | relink (i : LinkIx) (l : Link) (was : (s.link i).state.estimated = true) (is : l.state.estimated = true)
      (h : o.Relinked s (s.link i) l) : Change o s (s.setLink i l)
  | loseLink (i : LinkIx) (l : Link) (was : (s.link i).state.estimated = true) (is : l.state.dying = true)
      (h : o.Relinked s (s.link i) l) : Change o s ((s.setLink i l).mergeEvict [i])
  | newLink (i : LinkIx) (l : Link) (was : (s.link i).state = .free) (is : l.state.estimated = true)
      (node : notANode l.node = false)
      (new : ∀ j, (s.link j).state ≠ .free → ¬((s.link j).node = l.node ∧ (s.link j).port = l.port))
      (range : o.signalsInRange → l.inRange) : Change o s (s.setLink i l)
  | beginWalk : Change o s s.beginWalk
  | mergeEvict (is : List LinkIx) (dying : ∀ i ∈ is, (s.link i).state.dying = true)
      (stopped : s.engine.state = .transparent) : Change o s (s.mergeEvict is)
  | advanceWalk (w : Walk) (walk : s.walker.walk = some w) (h : w.next.val + 1 < 256)
      (visited : (s.route w.next).state = .empty ∨
        ∀ i, (s.route w.next).names i → i ∉ w.evict ∨ (s.link i).state = .live) :
      Change o s { s with walker := { s.walker with walk := some { w with next := ⟨w.next.val + 1, h⟩ } } }
  | completeWalk (w : Walk) (walk : s.walker.walk = some w) (last : ¬ w.next.val + 1 < 256)
      (visited : (s.route w.next).state = .empty ∨
        ∀ i, (s.route w.next).names i → i ∉ w.evict ∨ (s.link i).state = .live) :
      Change o s { w.evict.foldl State.freeEvicted s with walker := { s.walker with walk := none } }
  | haltWalk : Change o s { s with walker := { s.walker with walk := none } }
  | takeRoute (r : RouteIx) (d : Node) (latest : Option Half) (gateway : Bool) (new : s.findRoute d = none)
      (may : (∃ w ∈ s.verdicts.work, w.phase ≠ .lookup ∧ d = hdrOrigin w.landing.words) ∨
        (s.command.running = true ∧ s.command.code = 0x20#8 ∧ d = hiHalf s.arg1)) :
      Change o s (s.setRoute r (RouteEntry.taken d latest gateway))
  | reroute (r : RouteIx) (e : RouteEntry) (used : (s.route r).state ≠ .empty) (h : s.Rerouted (s.route r) e) :
      Change o s (s.setRoute r e)
  | emptyRoute (r : RouteIx) : Change o s (s.setRoute r RouteEntry.empty)
  | settings (c : Settings) (h : s.settings.inRange → c.inRange) : Change o s { s with settings := c }
  | engine (st : EngineState) (n : Nat) (runs : st ≠ .transparent)
      (range : s.settings.inRange → (s.engine.state = .learning → s.engine.settle < 15) →
        n ≤ 15 ∧ (st = .learning → n < 15)) : Change o s { s with engine := { s.engine with state := st, settle := n } }
  | stop (idle : s.walker.walk = none) : Change o s { s with engine := Engine.reset }
  | idle (c : CommandEngine) (h : c.running = false) : Change o s { s with command := c }
  | run (h : s.command.code = 0x20#8 → s.pinRefused = false) : Change o s s.goRunning
  | identify (node : Node) (seed : Half) (valid : notANode node = false) (idle : s.command.running = false)
      (h : o.transparentIsQuiet → s.verdicts.work = none) :
      Change o s { s.forgetNode node with identity := { ownNode := node, realmSeed := seed } }
  | roles (rs : Vector Role 8) (h : ∀ (i j : Initiator) (p : Port), rs[i.val] = .mesh p → rs[j.val] = .mesh p → i = j) :
      Change o s { s with bus := { s.bus with roles := rs } }
  | dropRegion (i : Fin 4) : Change o s (s.putRegion i none)
  | region (i : Fin 4) (r : Region) (count : 1 ≤ r.count ∧ r.count ≤ 256) (fits : s.regionRefused i r = false) :
      Change o s (s.putRegion i (some r))
  | endWork : Change o s { s with verdicts := { s.verdicts with work := none } }
  | mapWork (f : VerdictWork → VerdictWork) (words : ∀ w, (f w).landing.words = w.landing.words)
      (phase : ∀ w, (f w).phase = .lookup ↔ w.phase = .lookup) :
      Change o s { s with verdicts := { s.verdicts with work := s.verdicts.work.map f } }
  | await (l : Landing) (ph : WorkPhase)
      (may : ph ≠ .lookup → s.mayHold (hdrOrigin l.words) ∨
        ∃ w ∈ s.verdicts.work, w.phase ≠ .lookup ∧ w.landing.words = l.words) : Change o s (s.await l ph)
  | reset (p : Fin 8) (d : Word) (q : List Instr) (n : Nat) (c : ResetCause) (count : c.count ≤ 255)
      (cmd : CommandEngine) (idle : cmd.running = false) : Change o s
      { State.reset with
        pending := q, now := n, mem := s.mem, bus := { BusTap.reset p with readData := d }, cause := c, command := cmd }

/-- Changes one after the other. -/
inductive Chain (o : State) : State → State → Prop
  | refl (s : State) : Chain o s s
  | tail {s t u : State} (h : Chain o s t) (h' : Change o t u) : Chain o s u

/-- One change is a chain of changes. -/
theorem Change.chain {o s t : State} (h : Change o s t) : Chain o s t := .tail (.refl s) h

/-- Two chains make one. -/
theorem Chain.trans {o s t u : State} (h : Chain o s t) (h' : Chain o t u) : Chain o s u := by
  induction h' with
  | refl => exact h
  | tail _ hchange ih => exact .tail ih hchange

/-- What every change keeps a chain keeps. -/
theorem Chain.keeps {P : State → Prop} {o s t : State} (hc : ∀ s t, P s → Change o s t → P t) (h : Chain o s t)
    (hs : P s) : P t := by
  induction h with
  | refl => exact hs
  | tail _ hchange ih => exact hc _ _ ih hchange

/-- A state that differs in other things alone is a chain away. -/
theorem Chain.other {o s t : State} (h : t = s.withOther t) : Chain o s t := (Change.other t h).chain

/-- A chain to a state, and another that is equal to it. -/
theorem Chain.to_eq {o s t u : State} (h : Chain o s t) (e : u = t) : Chain o s u := e ▸ h

end Sys2Proof.Machine
end

section
/-! PROOFS. The arithmetic of links and the shape of route entries after the part's updates: what each keeps (chapters 4 to 6). -/

namespace Sys2Proof.Machine

/-! ### Links -/

/-- A toward-target step between two qualities stays one (R87). -/
theorem towardTarget_le {q t : Nat} (hq : q ≤ 4096) (ht : t ≤ 4096) : towardTarget q t ≤ 4096 := by
  unfold towardTarget
  split <;> omega

/-- An outcome sample is a quality (R88). -/
theorem outcomeSample_le (acked : Bool) (attempts : Nat) : outcomeSample acked attempts ≤ 4096 := by
  unfold outcomeSample
  split
  case isTrue =>
    dsimp only
    have hn : 1 ≤ max 1 attempts := by omega
    generalize max 1 attempts = n at hn ⊢
    refine Nat.div_le_of_le_mul ?_
    show 4096 + n / 2 ≤ n * 4096
    omega
  case isFalse => omega

/-- A link cost is 1..16383 (R91, R92). -/
theorem linkCost_range (p : Nat) (rate : Fin 8) (penalty : Nat) :
    1 ≤ linkCost p rate penalty ∧ linkCost p rate penalty ≤ 16383 := by
  have hceil (d : Nat) (hd : d ≠ 0) : 1 ≤ ceilDiv 96000 d := by
    unfold ceilDiv
    split
    case isTrue h =>
      have hdiv := Nat.div_add_mod 96000 d
      rcases Nat.eq_zero_or_pos (96000 / d) with h0 | h0
      · rw [h0, h] at hdiv
        omega
      · exact h0
    case isFalse => exact Nat.le_add_left ..
  unfold linkCost
  dsimp only
  split
  case isTrue => exact ⟨by decide, Nat.le_refl _⟩
  case isFalse h =>
    have := hceil _ h
    simp only [Config.maxLinkCost]
    omega

/-- An outcome keeps a link's fields in their ranges (R71). -/
theorem Link.withOutcome_inRange {l : Link} (x : OutcomeEntry) (h : l.inRange) : (l.withOutcome x).inRange := by
  obtain ⟨hrx, htx, hn, hs, hp, hc, hsig, hprob⟩ := h
  exact ⟨hrx, towardTarget_le htx (outcomeSample_le ..), Nat.min_le_left .., hs, hp, hc, hsig, hprob⟩

/-- A link that a sample has been taken of has its fields in their ranges (R73). -/
theorem Link.sampled_inRange {l : Link} (penalty : Nat) (h : l.inRange) : (l.sampled penalty).inRange := by
  obtain ⟨hrx, htx, hn, hs, hp, hc, hsig, hprob⟩ := h
  refine ⟨towardTarget_le hrx (by split <;> decide), htx, hn, ?_, hp, linkCost_range .., hsig, hprob⟩
  show (if l.heard then 0 else min 15 (l.silent + 1)) ≤ 15
  split <;> omega

/-- The state decision changes a link's state and its probation count alone (R74). -/
theorem Link.decided_eq (l : Link) (cfg : Settings) :
    l.decided cfg = { l with state := (l.decided cfg).state, probation := (l.decided cfg).probation } := by
  unfold Link.decided
  dsimp only
  split
  · rfl
  · split
    · split <;> rfl
    · split <;> rfl
    · split <;> rfl
    all_goals rfl

/-- A sampled link has the state it had. -/
@[simp] theorem Link.sampled_state (l : Link) (penalty : Nat) : (l.sampled penalty).state = l.state := rfl
/-- A sampled link has the probation count it had. -/
@[simp] theorem Link.sampled_probation (l : Link) (penalty : Nat) : (l.sampled penalty).probation = l.probation := rfl
/-- The silent count of a sampled link (R73). -/
@[simp] theorem Link.sampled_silent (l : Link) (penalty : Nat) :
    (l.sampled penalty).silent = if l.heard then 0 else min 15 (l.silent + 1) := rfl

/-- The first case of R74: a link silent to the limit is LOST. -/
theorem Link.decided_silent {l : Link} {cfg : Settings} (h : cfg.deadLimit ≤ l.silent) :
    l.decided cfg = { l with state := .lost } := by
  rw [Link.decided, if_pos h]

/-- A link in PROBATION that is not silent to the limit counts one sample and leaves PROBATION at the setting (R74). -/
theorem Link.decided_probation {l : Link} {cfg : Settings} (h : l.silent < cfg.deadLimit) (hs : l.state = .probation) :
    l.decided cfg =
      { l with
        probation := l.probation + 1
        state := if l.probation + 1 < cfg.probation then .probation
          else if cfg.qualityFloor ≤ l.delivery then .live else .weak } := by
  rw [Link.decided, if_neg (by omega), hs]
  dsimp only
  by_cases hn : l.probation + 1 < cfg.probation
  · rw [if_neg (by omega), if_pos hn, ← hs]
  · rw [if_pos (by omega), if_neg hn]

/-- A LIVE link that is not silent to the limit is WEAK below the quality floor (R74). -/
theorem Link.decided_live {l : Link} {cfg : Settings} (h : l.silent < cfg.deadLimit) (hs : l.state = .live) :
    l.decided cfg = { l with state := if l.delivery < cfg.qualityFloor then .weak else .live } := by
  rw [Link.decided, if_neg (by omega), hs]
  dsimp only
  split
  · rfl
  · rw [← hs]

/-- A WEAK link that is not silent to the limit is LIVE a quarter above the quality floor (R74). -/
theorem Link.decided_weak {l : Link} {cfg : Settings} (h : l.silent < cfg.deadLimit) (hs : l.state = .weak) :
    l.decided cfg =
      { l with state := if cfg.qualityFloor + cfg.qualityFloor / 4 ≤ l.delivery then .live else .weak } := by
  rw [Link.decided, if_neg (by omega), hs]
  dsimp only
  split
  · rfl
  · rw [← hs]

/-- A decided link is estimated still, or LOST (R74). -/
theorem Link.decided_state {l : Link} (cfg : Settings) (h : l.state.estimated = true) :
    (l.decided cfg).state.estimated = true ∨ (l.decided cfg).state = .lost := by
  rcases Nat.lt_or_ge l.silent cfg.deadLimit with hlt | hge
  · left
    rcases (LinkState.estimated_iff _).1 h with hs | hs | hs
    · rw [Link.decided_probation hlt hs]; dsimp only; split
      · rfl
      · split <;> rfl
    · rw [Link.decided_live hlt hs]; dsimp only; split <;> rfl
    · rw [Link.decided_weak hlt hs]; dsimp only; split <;> rfl
  · exact .inr (by rw [Link.decided_silent hge])

/-- The state decision keeps a link's fields in their ranges (R74). -/
theorem Link.decided_inRange {l : Link} {cfg : Settings} (hcfg : cfg.inRange) (he : l.state.estimated = true)
    (h : l.inRange) : (l.decided cfg).inRange := by
  obtain ⟨hrx, htx, hn, hs, hp, hc, hsig, hprob⟩ := h
  obtain ⟨-, -, -, ⟨-, hcp⟩, -⟩ := hcfg
  rcases Nat.lt_or_ge l.silent cfg.deadLimit with hlt | hge
  · rcases (LinkState.estimated_iff _).1 he with hst | hst | hst
    · rw [Link.decided_probation hlt hst]
      have hlt7 := hprob hst
      refine ⟨hrx, htx, hn, hs, by dsimp only; omega, hc, hsig, fun hstate => ?_⟩
      dsimp only at hstate ⊢
      split at hstate
      · omega
      · split at hstate <;> cases hstate
    · rw [Link.decided_live hlt hst]
      refine ⟨hrx, htx, hn, hs, hp, hc, hsig, fun hstate => ?_⟩
      dsimp only at hstate
      split at hstate <;> cases hstate
    · rw [Link.decided_weak hlt hst]
      refine ⟨hrx, htx, hn, hs, hp, hc, hsig, fun hstate => ?_⟩
      dsimp only at hstate
      split at hstate <;> cases hstate
  · rw [Link.decided_silent hge]
    exact ⟨hrx, htx, hn, hs, hp, hc, hsig, fun hstate => by cases hstate⟩

/-- A visit keeps the name of a link. -/
theorem Link.visited_name (l : Link) (cfg : Settings) : (l.visited cfg).node = l.node ∧ (l.visited cfg).port = l.port := by
  rw [Link.visited, Link.decided_eq]
  exact ⟨rfl, rfl⟩

/-- A visit keeps a link's fields in their ranges (R73). -/
theorem Link.visited_inRange {l : Link} {cfg : Settings} (hcfg : cfg.inRange) (he : l.state.estimated = true)
    (h : l.inRange) : (l.visited cfg).inRange :=
  Link.decided_inRange hcfg he (Link.sampled_inRange _ h)

/-! ### Route entries -/

/-- A search that keeps one candidate of those it has seen answers one of the list. -/
theorem foldl_keep_mem {p : Candidate → Candidate → Prop} [∀ c d, Decidable (p c d)] {cs : List Candidate}
    {x : Option Candidate} {b : Candidate}
    (h : cs.foldl
      (fun b c => match b with
        | none => some c
        | some d => if p c d then some c else some d) x = some b) : b ∈ cs ∨ x = some b := by
  induction cs generalizing x with
  | nil => exact .inr h
  | cons c cs ih =>
    rcases ih h with hb | hb
    · exact .inl (List.mem_cons_of_mem _ hb)
    · cases x with
      | none => cases hb; exact .inl (List.mem_cons_self ..)
      | some d =>
        dsimp only at hb
        split at hb
        · cases hb; exact .inl (List.mem_cons_self ..)
        · exact .inr hb

/-- The best of a list of candidates is one of them. -/
theorem State.best_mem {s : State} {cs : List Candidate} {b : Candidate} (h : s.best cs = some b) : b ∈ cs :=
  (foldl_keep_mem (p := fun c d => s.candidateBefore c d = true) h).resolve_right nofun

/-- An eligible candidate of an entry: a candidate over a LIVE link with a total below 65535 (R106). -/
theorem State.mem_eligibles {s : State} {e : RouteEntry} {c : Candidate} (h : c ∈ s.eligibles e) :
    c ∈ e.candidates ∧ (s.link c.link).state = .live ∧ s.candidateTotal c < 65535 := by
  obtain ⟨hc, he⟩ := List.mem_filter.1 h
  unfold State.eligible at he
  simp only [Bool.and_eq_true, State.isLive_iff, decide_eq_true_iff] at he
  exact ⟨hc, he.1.1, he.1.2⟩

/-- The primary a pin gives: over the pin's LIVE link, with a total below 65535 (R107). -/
theorem State.pinChoice_some {s : State} {e : RouteEntry} {c : Choice} (h : s.pinChoice e = some c) :
    (s.link c.link).state = .live ∧ c.total < 65535 := by
  unfold State.pinChoice at h
  split at h
  · cases h
  · split at h
    · cases h
    · split at h
      · next hl =>
        simp only [Bool.and_eq_true, State.isLive_iff, decide_eq_true_iff] at hl
        cases h
        exact hl
      · cases h

/-- The primary that the candidates give is one of the eligible ones, with its total (R107). -/
theorem State.candidatePrimary_some {s : State} {e : RouteEntry} {c : Choice} (h : s.candidatePrimary e = some c) :
    ∃ x ∈ s.eligibles e, c = s.choiceOf x := by
  unfold State.candidatePrimary at h
  split at h
  · cases h
  next b hb =>
    have hbm := State.best_mem hb
    split at h
    · cases h; exact ⟨b, hbm, rfl⟩
    next cur hcur =>
      have hcm : cur ∈ s.eligibles e := by
        obtain ⟨x, -, hx⟩ := Option.bind_eq_some_iff.1 hcur
        exact List.mem_of_find?_eq_some hx
      split at h <;> cases h
      · exact ⟨b, hbm, rfl⟩
      · exact ⟨cur, hcm, rfl⟩

/-- The primary after a selection is over a LIVE link and has a total below 65535 (R107). -/
theorem State.selectPrimary_some {s : State} {e : RouteEntry} {c : Choice} (h : s.selectPrimary e = some c) :
    (s.link c.link).state = .live ∧ c.total < 65535 := by
  unfold State.selectPrimary at h
  split at h
  next hp => cases h; exact State.pinChoice_some hp
  · obtain ⟨x, hx, rfl⟩ := State.candidatePrimary_some h
    exact (State.mem_eligibles hx).2

/-- The alternate after a selection is over a LIVE link and has a total below 65535 (R107). -/
theorem State.selectAlternate_some {s : State} {e : RouteEntry} {pr : Option Choice} {c : Choice}
    (h : s.selectAlternate e pr = some c) : (s.link c.link).state = .live ∧ c.total < 65535 := by
  unfold State.selectAlternate at h
  split at h
  · cases h
  · obtain ⟨x, hx, rfl⟩ := Option.map_eq_some_iff.1 h
    exact (State.mem_eligibles (List.mem_filter.1 (State.best_mem hx)).1).2

/-- A selection changes an entry's primary, alternate and state alone (R107). -/
theorem State.selected_eq (s : State) (e : RouteEntry) :
    s.selected e =
      { e with
        primary := s.selectPrimary e, alternate := s.selectAlternate e (s.selectPrimary e)
        state := if (s.selectPrimary e).isSome then .active else .orphan } := rfl

/-- A selected entry is in use. -/
theorem State.selected_used (s : State) (e : RouteEntry) : (s.selected e).state ≠ .empty := by
  rw [State.selected_eq]
  dsimp only
  split <;> simp

/-- A selected entry names candidates' links and LIVE ones. -/
theorem State.selected_names {s : State} {e : RouteEntry} {i : LinkIx} (h : (s.selected e).names i) :
    (∃ c ∈ e.candidates, c.link = i) ∨ (s.link i).state = .live := by
  rcases h with h | ⟨c, hc, rfl⟩ | ⟨c, hc, rfl⟩
  · exact .inl h
  · exact .inr (State.selectPrimary_some hc).1
  · exact .inr (State.selectAlternate_some hc).1

/-- A LIVE link is estimated. -/
theorem LinkState.estimated_of_live {l : LinkState} (h : l = .live) : l.estimated = true := by rw [h]; rfl

/-- An update stays one when the entry is selected besides. -/
theorem State.Rerouted.selected {s : State} {e e' : RouteEntry} (h : s.Rerouted e e') :
    s.Rerouted e (s.selected e') where
  dest := h.dest
  used _ := s.selected_used e'
  active _ := by
    rw [State.selected_eq]
    dsimp only
    split <;> simp_all
  length := h.length
  nodup := h.nodup
  names i hi := by
    rcases State.selected_names hi with hc | hl
    · exact h.names i (.inl hc)
    · exact .inr (LinkState.estimated_of_live hl)
  range hp he := by
    obtain ⟨hage, -, -, hpin, hstamp⟩ := h.range hp he
    exact ⟨hage, fun c hc => Nat.le_of_lt_succ (State.selectPrimary_some hc).2,
      fun c hc => Nat.le_of_lt_succ (State.selectAlternate_some hc).2, hpin, hstamp⟩

/-- An entry that stays as it is. -/
theorem State.Rerouted.refl (s : State) (e : RouteEntry) : s.Rerouted e e :=
  ⟨rfl, id, id, id, id, fun _ h => .inl h, fun _ h => h⟩

/-- Updates of sequences, age within 255 and the flag keep the shape of an entry (R103, R105, R126). -/
theorem State.Rerouted.of_fields (s : State) (e : RouteEntry) (latest last : Option Half) (age : Nat) (gateway : Bool)
    (hage : e.age ≤ 255 → age ≤ 255) :
    s.Rerouted e { e with latest := latest, lastRebroadcast := last, age := age, gateway := gateway } :=
  ⟨rfl, id, id, id, id, fun _ h => .inl h, fun _ h => ⟨hage h.1, h.2⟩⟩

/-- Two updates make one. -/
theorem State.Rerouted.trans {s : State} {e f g : RouteEntry} (h : s.Rerouted e f) (h' : s.Rerouted f g) :
    s.Rerouted e g where
  dest := h'.dest.trans h.dest
  used he := h'.used (h.used he)
  active he := h'.active (h.active he)
  length he := h'.length (h.length he)
  nodup he := h'.nodup (h.nodup he)
  names i hi := (h'.names i hi).elim (h.names i) .inr
  range hp he := h'.range hp (h.range hp he)

/-- An entry with another candidate list, of candidates it had and of ones over estimated links with stamps in range. -/
theorem State.Rerouted.of_candidates {s : State} {e : RouteEntry} {cs : List Candidate}
    (length : e.candidates.length ≤ 4 → cs.length ≤ 4)
    (nodup : (e.candidates.map fun c => c.link).Nodup → (cs.map fun c => c.link).Nodup)
    (mem : ∀ d ∈ cs, d ∈ e.candidates ∨ ((s.link d.link).state.estimated = true ∧ d.stamp ≤ 65535)) :
    s.Rerouted e { e with candidates := cs } where
  dest := rfl
  used := id
  active := id
  length := length
  nodup := nodup
  names i hi := by
    rcases hi with ⟨d, hd, rfl⟩ | hi
    · exact (mem d hd).imp (fun h => .inl ⟨d, h, rfl⟩) fun h => h.1
    · exact .inl (.inr hi)
  range _ h := by
    obtain ⟨hage, hpr, halt, hpin, hst⟩ := h
    exact ⟨hage, hpr, halt, hpin, fun d hd => (mem d hd).elim (hst d) fun h => h.2⟩

/-- An entry that loses candidates. -/
theorem State.Rerouted.filter (s : State) (e : RouteEntry) (p : Candidate → Bool) :
    s.Rerouted e { e with candidates := e.candidates.filter p } :=
  .of_candidates (Nat.le_trans (List.length_filter_le ..)) (fun h => h.sublist (List.filter_sublist.map _))
    fun _ hd => .inl (List.mem_filter.1 hd).1

/-- An entry with a candidate over a link that it has none over at the tail of some of its own, fewer than 4. -/
theorem State.Rerouted.append {s : State} {e : RouteEntry} {cs : List Candidate} {c : Candidate}
    (hsub : cs.Sublist e.candidates) (hroom : e.candidates.length ≤ 4 → cs.length < 4)
    (hnew : ∀ d ∈ e.candidates, d.link ≠ c.link) (hest : (s.link c.link).state.estimated = true)
    (hstamp : c.stamp ≤ 65535) : s.Rerouted e { e with candidates := cs ++ [c] } := by
  refine .of_candidates (fun h => ?_) (fun h => ?_) fun d hd => ?_
  · rw [List.length_append]
    exact hroom h
  · rw [List.map_append, List.nodup_append]
    refine ⟨h.sublist (hsub.map _), by simp, ?_⟩
    intro x hx y hy
    obtain ⟨d, hd, rfl⟩ := List.mem_map.1 hx
    simp only [List.map_cons, List.map_nil, List.mem_singleton] at hy
    exact hy ▸ hnew d (hsub.subset hd)
  · rcases List.mem_append.1 hd with hd | hd
    · exact .inl (hsub.subset hd)
    · rw [List.mem_singleton.1 hd]; exact .inr ⟨hest, hstamp⟩

/-- An entry whose candidates over a link are replaced by one of that link. -/
theorem State.Rerouted.replace {s : State} {e : RouteEntry} {c : Candidate}
    (hest : (s.link c.link).state.estimated = true) (hstamp : c.stamp ≤ 65535) :
    s.Rerouted e { e with candidates := e.candidates.map fun d => if d.link = c.link then c else d } := by
  have hlinks : ((e.candidates.map fun d => if d.link = c.link then c else d).map fun d => d.link) =
      e.candidates.map fun d => d.link := by
    rw [List.map_map]
    refine List.map_congr_left fun d _ => ?_
    simp only [Function.comp_apply]
    split
    · next hd => exact hd.symm
    · rfl
  refine .of_candidates (fun h => by simpa using h) (fun h => by rwa [hlinks]) fun d hd => ?_
  obtain ⟨x, hx, rfl⟩ := List.mem_map.1 hd
  split
  · exact .inr ⟨hest, hstamp⟩
  · exact .inl hx

/-- The candidate that a newcomer may replace is one of the list. -/
theorem State.victim_mem {s : State} {e : RouteEntry} {v : Candidate} (h : s.victim e = some v) : v ∈ e.candidates :=
  (List.mem_filter.1 ((foldl_keep_mem (p := fun c d => s.candidateTotal d < s.candidateTotal c) h).resolve_right
    nofun)).1

/-- The candidate update keeps the shape of an entry (R104). -/
theorem State.Rerouted.withOffer {s : State} (e : RouteEntry) {i : LinkIx} {x : Offer}
    (hest : (s.link i).state.estimated = true) (hstamp : x.stamp ≤ 65535) : s.Rerouted e (s.withOffer e i x) := by
  unfold State.withOffer
  dsimp only
  split
  case isTrue => exact .replace (c := { link := i, stamp := x.stamp, heard := x.seq }) hest hstamp
  case isFalse hnone =>
    have hnew : ∀ d ∈ e.candidates, d.link ≠ i := by simpa using hnone
    split
    case isTrue hroom => exact .append (List.Sublist.refl _) (fun _ => hroom) hnew hest hstamp
    case isFalse hfull =>
      split
      · exact .refl s e
      next v hv =>
        split
        case isFalse => exact .refl s e
        case isTrue =>
          have hshorter : (e.candidates.filter fun c => c.link != v.link).length < e.candidates.length :=
            List.length_filter_lt_length_iff_exists.2 ⟨v, State.victim_mem hv, by simp⟩
          exact .append List.filter_sublist (Nat.lt_of_lt_of_le hshorter) hnew hest hstamp

/-- The sequence test, when the notice is not stale, keeps the shape of an entry (R103). -/
theorem State.Rerouted.afterSequence (s : State) {e e' : RouteEntry} {x : Offer} (h : e.afterSequence x = some e') :
    s.Rerouted e e' := by
  unfold RouteEntry.afterSequence at h
  dsimp only at h
  split at h
  · cases h; exact .of_fields s e _ _ 0 _ fun _ => by omega
  · split at h
    · cases h; exact .of_fields s e _ _ 0 _ fun _ => by omega
    · split at h
      · cases h; exact .refl s e
      · cases h

/-- A walk's visit keeps the shape of an entry before it is emptied or selected (R124, R126). -/
theorem State.Rerouted.visited (s : State) (w : Walk) (e : RouteEntry) :
    s.Rerouted e (if w.refresh then (s.trimmed w e).aged else s.trimmed w e) := by
  have htrim : s.Rerouted e (s.trimmed w e) := .filter s e _
  split
  · exact htrim.trans (.of_fields s _ _ _ _ _ fun _ => Nat.min_le_left ..)
  · exact htrim

end Sys2Proof.Machine
end

section
/-! PROOFS. Every act of the part is a chain of elementary changes. -/

namespace Sys2Proof.Machine

variable {o s : State}

/-- A state of known shape that differs in other things alone is a chain away. -/
theorem Chain.of_eq {t u : State} (h : t = u) (h' : u = s.withOther u) : Chain o s t := h ▸ .other h'

/-! ### Counters, flags, memory -/

/-- Counting in a list of counters. -/
theorem countAll_chain (o s : State) (cs : List Counter) : Chain o s (s.countAll cs) := by
  unfold State.countAll
  induction cs generalizing s with
  | nil => exact .refl s
  | cons c cs ih => exact (Change.count c).chain.trans (ih (s.count c))

/-- A conditional raise. -/
theorem raiseIf_chain (o s : State) (c : Bool) (e : EventSource) : Chain o s (s.raiseIf c e) := .of_eq (s.raiseIf_eq c e) rfl

/-- A verdict's record. -/
theorem recordVerdict_chain (o s : State) (l : Landing) (v : Verdict) : Chain o s (s.recordVerdict l v) :=
  .of_eq (s.recordVerdict_eq l v) rfl

/-- A held landing's release. -/
theorem releaseLanding_chain (o s : State) (b : Byte) : Chain o s (s.releaseLanding b) := by
  unfold State.releaseLanding
  split
  · exact (Chain.other rfl).tail (.memory _ _ _)
  · exact .refl s

/-- An unaltered release. -/
theorem releaseUnaltered_chain (o s : State) : Chain o s s.releaseUnaltered := by
  unfold State.releaseUnaltered
  split
  · exact .refl s
  · exact (Chain.other rfl).tail (.memory _ _ _)
  · exact .other rfl

/-- A decided verdict. -/
theorem announce_chain (o s : State) (l : Landing) (v : Verdict) : Chain o s (s.announce l v) := by
  have h := (countAll_chain o s (verdictCounters v.code v.reason)).trans (recordVerdict_chain o _ l v)
  unfold State.announce
  dsimp only
  split
  · exact h.trans (releaseLanding_chain o _ _)
  · exact h

/-- The end of a computation. -/
theorem conclude_chain (o s : State) (l : Landing) (v : Verdict) : Chain o s (s.conclude l v) :=
  Change.endWork.chain.trans (announce_chain o _ l v)

/-! ### The neighbour table -/

/-- The entry that a hello creates has its fields in their ranges (R66). -/
theorem newLink_inRange (n : LinkName) {signal : Int} (seq : Half) (floor : Int) (h : -128 ≤ signal ∧ signal ≤ 127) :
    (newLink n signal seq floor).inRange := by
  obtain ⟨hrx, htx, hsamples, hsilent, hprobation, hcost, -, -⟩ : Link.free.inRange := by
    unfold Link.inRange
    decide
  exact ⟨hrx, htx, hsamples, hsilent, hprobation, hcost, h, fun _ => show Link.free.probation < 7 by decide⟩

/-- An update of a link that stays in its state. -/
theorem relink_chain {i : LinkIx} {l : Link} (was : (s.link i).state.estimated = true)
    (is : l.state = (s.link i).state) (h : o.Relinked s (s.link i) l) : Chain o s (s.setLink i l) :=
  (Change.relink i l was (is ▸ was) h).chain

/-- A hello. -/
theorem takeHello_chain (o s : State) (n : LinkName) (signal : Int) (seq : Half)
    (hsig : o.signalsInRange → -128 ≤ signal ∧ signal ≤ 127) : Chain o s (s.takeHello n signal seq) := by
  unfold State.takeHello
  split
  case isTrue => exact .refl s
  case isFalse hnode =>
    have hvalid : notANode n.node = false := by
      simp only [Bool.or_eq_true, not_or, Bool.not_eq_true] at hnode
      exact hnode.1
    split
    next i hi =>
      dsimp only
      split
      next he =>
        exact relink_chain he rfl ⟨rfl, rfl, fun _ _ h => h⟩
      next => exact .refl s
    next hnone =>
      split
      next i hi =>
        have hfree : (s.link i).state = .free := by simpa using List.find?_some hi
        refine (Change.newLink i _ hfree rfl hvalid ?_ fun h => ?_).chain
        · exact (State.findLink_none hnone).resolve_left (by simp [hvalid])
        · exact newLink_inRange n seq _ (hsig h)
      next => exact (Change.count _).chain.trans (.other rfl)

/-- A frame's update of its link. -/
theorem updateLinkFromFrame_chain (o s : State) (n : LinkName) (signal : Int) (rate : Fin 8)
    (hsig : o.signalsInRange → -128 ≤ signal ∧ signal ≤ 127) : Chain o s (s.updateLinkFromFrame n signal rate) := by
  unfold State.updateLinkFromFrame
  split
  · exact .refl s
  · dsimp only
    split
    next he =>
      refine relink_chain he rfl ⟨rfl, rfl, fun ho _ h => ?_⟩
      obtain ⟨hrx, htx, hn, hs, hp, hc, -, hprob⟩ := h
      exact ⟨hrx, htx, hn, hs, hp, hc, hsig ho, hprob⟩
    next => exact .refl s

/-- An outcome on its link. -/
theorem applyOutcome_chain (o s : State) (x : OutcomeEntry) : Chain o s (s.applyOutcome x) := by
  unfold State.applyOutcome
  split
  · exact .refl s
  · split
    next he =>
      exact relink_chain he rfl ⟨rfl, rfl, fun _ _ h => Link.withOutcome_inRange x h⟩
    next => exact .refl s

/-- A changed link is the link set, besides its reports. -/
theorem changeLink_shape (s : State) (i : LinkIx) (l : Link) : ∃ ev, s.changeLink i l = { s.setLink i l with events := ev } :=
  ⟨_, s.changeLink_eq i l⟩

/-- A link that leaves estimation and joins the evict work. -/
theorem loseLink_chain {i : LinkIx} {l : Link} (was : (s.link i).state.estimated = true) (is : l.state.dying = true)
    (h : o.Relinked s (s.link i) l) : Chain o s ((s.changeLink i l).mergeEvict [i]) := by
  obtain ⟨ev, hev⟩ := changeLink_shape s i l
  rw [hev]
  exact (Change.loseLink i l was is h).chain.trans (.other rfl)

/-- A sweep's visit of an entry. -/
theorem visitLink_chain (o s : State) (i : LinkIx) : Chain o s (s.visitLink i) := by
  unfold State.visitLink
  dsimp only
  split
  case isFalse => exact .refl s
  case isTrue he =>
    have hre : o.Relinked s (s.link i) ((s.link i).visited s.settings) :=
      ⟨(Link.visited_name ..).1, (Link.visited_name ..).2, fun _ hcfg h => Link.visited_inRange hcfg he h⟩
    split
    case isTrue hlost => exact (loseLink_chain he (by rw [hlost]; rfl) hre).tail .beginWalk
    case isFalse hlost =>
      have hest := (Link.decided_state (l := (s.link i).sampled s.settings.hopPenalty) s.settings he).resolve_right hlost
      obtain ⟨ev, hev⟩ := changeLink_shape s i ((s.link i).visited s.settings)
      rw [hev]
      exact (Change.relink i _ he hest hre).chain.trans (.other rfl)

/-- A refresh request. -/
theorem requestRefresh_chain (o s : State) : Chain o s s.requestRefresh := (Chain.other rfl).tail .beginWalk

/-- A flush request. -/
theorem requestFlush_chain (o s : State) : Chain o s s.requestFlush := (Chain.other rfl).tail .beginWalk

/-- The sweep's advance. -/
theorem advanceSweep_chain (o s : State) (i : LinkIx) : Chain o s (s.advanceSweep i) := by
  unfold State.advanceSweep
  split
  · exact .other rfl
  · exact (Chain.other rfl).trans (requestRefresh_chain o _)

/-- The purge of a pair. -/
theorem purgeLink_chain (o s : State) (n : LinkName) : Chain o s (s.purgeLink n) := by
  unfold State.purgeLink
  split
  · exact .refl s
  · split
    next he =>
      refine loseLink_chain he rfl ⟨rfl, rfl, fun _ _ h => ?_⟩
      obtain ⟨hrx, htx, hn, hs, hp, hc, hsig, -⟩ := h
      exact ⟨hrx, htx, hn, hs, hp, hc, hsig, nofun⟩
    next => exact .refl s

/-- The purge of a list of pairs. -/
theorem purgeLinks_chain (o s : State) (ns : List LinkName) : Chain o s (ns.foldl State.purgeLink s) := by
  induction ns generalizing s with
  | nil => exact .refl s
  | cons n ns ih => exact (purgeLink_chain o s n).trans (ih _)

/-- The purge window's expiry. -/
theorem purgeWindowExpiry_chain (o s : State) : Chain o s s.purgeWindowExpiry := by
  unfold State.purgeWindowExpiry
  split
  · exact .refl s
  · split
    · exact .refl s
    · dsimp only
      have hbegin (t : State) (ht : Chain o s t) :
          Chain o s (State.beginWalk { t with purge := { t.purge with set := [] } }) :=
        (ht.tail (.purge [] t.purge.bars (List.nil_sublist _) (List.Sublist.refl _))).tail .beginWalk
      refine hbegin _ (.trans (.other ?_) (purgeLinks_chain o _ _))
      rfl

/-! ### The sample expiry -/

/-- A sweep request. -/
theorem requestSweep_chain (o s : State) : Chain o s s.requestSweep := by
  unfold State.requestSweep
  split
  · exact (Change.count _).chain.trans (.other rfl)
  · exact .other rfl

/-- Aging keeps a wanted entry's destination. -/
@[simp] theorem WantedEntry.aged_dest (limit : Nat) (w : WantedEntry) : (w.aged limit).dest = w.dest := by
  unfold WantedEntry.aged
  split <;> rfl

/-- Aging keeps a wanted entry's numbers in their ranges (R118). -/
theorem WantedEntry.aged_inRange {limit : Nat} (hl : limit ≤ 63) {w : WantedEntry} (h : w.inRange) :
    (w.aged limit).inRange := by
  obtain ⟨hage, hwait, hframes⟩ := h
  unfold WantedEntry.aged
  split
  next hw =>
    have hlt := hwait hw
    refine ⟨by dsimp only; omega, fun hstate => ?_, hframes⟩
    dsimp only at hstate ⊢
    split at hstate
    · cases hstate
    · omega
  next => exact ⟨hage, hwait, hframes⟩

/-- Wanted-list aging. -/
theorem ageWanted_chain (o s : State) : Chain o s s.ageWanted := by
  refine .trans (Change.wantedMap (WantedEntry.aged s.settings.waitLimit) (fun w => w.aged_dest _) ?_).chain
    (raiseIf_chain o _ _ _)
  intro w hcfg hw
  obtain ⟨-, -, -, -, -, -, ⟨-, hl⟩, -⟩ := hcfg
  exact WantedEntry.aged_inRange hl hw

/-- A settle sample. -/
theorem settleSample_chain (o s : State) : Chain o s s.settleSample := by
  unfold State.settleSample
  split
  case isFalse => exact .refl s
  case isTrue hl =>
    dsimp only
    split
    case isTrue =>
      refine .trans (Change.engine .forwarding (s.engine.settle + 1) nofun fun _ h => ?_).chain (.other rfl)
      have := h hl
      exact ⟨by omega, nofun⟩
    case isFalse hn =>
      have heng : s.engine = { s.engine with state := .learning } := by rw [← hl]
      refine (Change.engine .learning (s.engine.settle + 1) nofun fun hcfg h => ?_).chain.to_eq ?_
      · obtain ⟨-, -, -, -, ⟨-, hs⟩, -⟩ := hcfg
        have := h hl
        omega
      · rw [heng]

/-- The sample timer's expiry. -/
theorem sampleExpiry_chain (o s : State) : Chain o s s.sampleExpiry := by
  unfold State.sampleExpiry
  split
  · exact .refl s
  · split
    · exact .refl s
    · dsimp only
      refine .trans (.trans (.tail (.trans (.other ?_) (requestSweep_chain o _)) .floodAge) (ageWanted_chain o _))
        (settleSample_chain o _)
      rfl

/-! ### The wanted list and the route table -/

/-- A wanted-list request. -/
theorem requestWanted_chain (o s : State) (d : Node) : Chain o s (s.requestWanted d) := by
  unfold State.requestWanted
  split
  case isTrue =>
    refine (Change.wantedMap (WantedEntry.requested d) (fun w => ?_) fun w _ h => ?_).chain
    · unfold WantedEntry.requested
      split
      · split <;> rfl
      · rfl
    · obtain ⟨hage, hwait, hlo, hhi⟩ := h
      unfold WantedEntry.requested
      split
      · split
        · exact ⟨hage, hwait, by dsimp only; omega, by dsimp only; omega⟩
        · exact ⟨Nat.zero_le _, fun _ => Nat.zero_lt_succ _, Nat.le_refl _, by dsimp only; omega⟩
      · exact ⟨hage, hwait, hlo, hhi⟩
  case isFalse hnew =>
    split
    case isTrue hroom => exact (Change.wantedJoin d (Bool.eq_false_iff.2 hnew) hroom).chain
    case isFalse => exact .refl s

/-- The ROUTE-FOUND report. -/
theorem reportFound_chain (o s : State) (e f : RouteEntry) : Chain o s (s.reportFound e f) := by
  unfold State.reportFound
  split
  case isFalse => exact .refl s
  case isTrue =>
    refine .trans (Change.wantedMap (WantedEntry.answered f.dest) (fun w => ?_) fun w _ h => ?_).chain (.other rfl)
    · unfold WantedEntry.answered
      split <;> rfl
    · obtain ⟨hage, hwait, hframes⟩ := h
      unfold WantedEntry.answered
      split
      · exact ⟨hage, nofun, hframes⟩
      · exact ⟨hage, hwait, hframes⟩

/-- A selection on an entry in use. -/
theorem reselect_chain {r : RouteIx} {e : RouteEntry} (used : (s.route r).state ≠ .empty)
    (h : s.Rerouted (s.route r) e) : Chain o s (s.reselect r e) :=
  ((Change.reroute r _ used h.selected).chain.trans (reportFound_chain o _ _ _)).trans (raiseIf_chain o _ _ _)

/-- An entry set twice. -/
theorem State.setRoute_setRoute (s : State) (r : RouteIx) (e f : RouteEntry) :
    (s.setRoute r e).setRoute r f = s.setRoute r f := by
  simp [State.setRoute]

/-- A selection stores over what the entry was. -/
theorem State.reselect_setRoute (s : State) (r : RouteIx) (e f : RouteEntry) :
    (s.setRoute r e).reselect r f = s.reselect r f := by
  unfold State.reselect
  dsimp only
  rw [State.setRoute_setRoute]
  rfl

/-- An update of an entry just taken. -/
theorem takeRoute_chain {r : RouteIx} {d : Node} {latest : Option Half} {gateway : Bool} {e : RouteEntry}
    (new : s.findRoute d = none)
    (may : (∃ w ∈ s.verdicts.work, w.phase ≠ .lookup ∧ d = hdrOrigin w.landing.words) ∨
      (s.command.running = true ∧ s.command.code = 0x20#8 ∧ d = hiHalf s.arg1))
    (h : s.Rerouted (RouteEntry.taken d latest gateway) e) : Chain o s (s.setRoute r e) := by
  have htake : Change o s (s.setRoute r (RouteEntry.taken d latest gateway)) := .takeRoute r d latest gateway new may
  refine (htake.chain.tail (.reroute r e ?_ ?_)).to_eq (s.setRoute_setRoute r _ e).symm
  · rw [State.route_setRoute_same]; exact nofun
  · rw [State.route_setRoute_same]; exact ⟨h.dest, h.used, h.active, h.length, h.nodup, h.names, h.range⟩

/-! ### Verdict work -/

/-- A landing's stamp is a 16-bit number. -/
theorem Landing.offer_stamp_le (l : Landing) : l.offer.stamp ≤ 65535 := Nat.le_of_lt_succ (BitVec.isLt _)

/-- The choosing step follows the learning step of the same landing. -/
theorem await_choosing_chain {l : Landing} {m m' : PortMask} {p p' : Bool} {i : LinkIx} {first : Option Requester}
    (work : s.verdicts.work = some { landing := l, phase := .learning m p }) :
    Chain o s (s.await l (.choosing m' p' i first)) :=
  (Change.await l _ fun _ => .inr ⟨_, work, nofun, rfl⟩).chain

/-- The learning step. -/
theorem learn_chain {l : Landing} {m : PortMask} {p : Bool}
    (work : s.verdicts.work = some { landing := l, phase := .learning m p }) : Chain o s (s.learn l m p) := by
  have absorb (t : State) : Chain o t (t.conclude l (.plain .absorb)) := conclude_chain o t l _
  unfold State.learn
  split
  · exact absorb s
  next i hi =>
    split
    case isFalse => exact absorb s
    case isTrue hest =>
      split
      next r hr =>
        split
        · exact absorb s
        next e he =>
          have hre : s.Rerouted (s.route r) (s.withOffer e i l.offer) :=
            (State.Rerouted.afterSequence s he).trans (.withOffer e hest l.offer_stamp_le)
          exact (Change.reroute r _ (State.findRoute_some hr).1 hre).chain.trans (await_choosing_chain work)
      next hnone =>
        split
        next r hr =>
          have hre := State.Rerouted.withOffer
            (RouteEntry.taken (hdrOrigin l.words) (some (hdrSequence l.words)) (hdrGateway l.words)) hest l.offer_stamp_le
          exact (takeRoute_chain hnone (.inl ⟨_, work, nofun, rfl⟩) hre).trans (await_choosing_chain work)
        next => exact ((Change.count _).chain.trans (.other rfl)).trans (absorb _)

/-- The choosing step. -/
theorem choose_chain (o s : State) (l : Landing) (m : PortMask) (p : Bool) (i : LinkIx) :
    Chain o s (s.choose l m p i) := by
  unfold State.choose
  split
  · exact conclude_chain o s l _
  next r hr =>
    have hsel : Chain o s (s.reselect r (s.route r)) := reselect_chain (State.findRoute_some hr).1 (.refl s _)
    have hroute : (s.reselect r (s.route r)).route r = s.selected (s.route r) := by
      rw [State.reselect_eq]; simp [State.route]
    dsimp only
    split
    case isFalse => exact hsel.trans (conclude_chain o _ l _)
    case isTrue =>
      refine (hsel.tail (.reroute r _ ?_ ?_)).trans (conclude_chain o _ l _)
      · rw [hroute]; exact s.selected_used _
      · exact .of_fields _ _ _ _ _ _ id

/-- A lookup without a usable primary. -/
theorem noPrimary_chain (o s : State) (l : Landing) : Chain o s (s.noPrimary l) := by
  unfold State.noPrimary
  dsimp only
  split
  · exact (requestWanted_chain o s _).trans (conclude_chain o _ l _)
  · exact conclude_chain o s l _

/-- The forwarding lookup. -/
theorem lookupForward_chain (o s : State) (l : Landing) : Chain o s (s.lookupForward l) := by
  unfold State.lookupForward
  split
  · exact noPrimary_chain o s l
  next r hr =>
    split
    · exact noPrimary_chain o s l
    · split
      · exact conclude_chain o s l _
      · have hsel : Chain o s (s.reselect r (s.route r)) := reselect_chain (State.findRoute_some hr).1 (.refl s _)
        dsimp only
        split
        · exact hsel.trans (noPrimary_chain o _ l)
        · exact hsel.trans (conclude_chain o _ l _)

/-- Broadcast data. -/
theorem stageBroadcast_chain (o s : State) (l : Landing) : Chain o s (s.stageBroadcast l) := by
  unfold State.stageBroadcast
  dsimp only
  split
  · exact conclude_chain o s l _
  next hnew =>
    have hins := (Change.floodInsert (o := o) (s := s) _ _ (Bool.eq_false_iff.2 hnew)).chain
    split
    · exact hins.trans (conclude_chain o _ l _)
    · exact hins.trans (conclude_chain o _ l _)

/-- Stage 8. -/
theorem stageData_chain (o s : State) (l : Landing) : Chain o s (s.stageData l) := by
  unfold State.stageData
  split
  · exact conclude_chain o s l _
  · split
    · exact conclude_chain o s l _
    · split
      · exact stageBroadcast_chain o s l
      · split
        · exact conclude_chain o s l _
        · split
          · exact conclude_chain o s l _
          · exact (Change.await l .lookup fun h => absurd rfl h).chain

/-- Stage 7, for a frame that passed stage 2. -/
theorem stageNotice_chain (o s : State) {l : Landing} (h : l.malformed = false) : Chain o s (s.stageNotice l) := by
  unfold State.stageNotice
  split
  · exact conclude_chain o s l _
  next hown =>
    refine (Change.await l _ fun _ => .inl ⟨?_, hown⟩).chain
    simp only [Landing.malformed, Bool.or_eq_false_iff] at h
    exact h.1.2

/-- The stages. -/
theorem runStages_chain (o s : State) (l : Landing) (hsig : o.signalsInRange → -128 ≤ l.signal ∧ l.signal ≤ 127) :
    Chain o s (s.runStages l) := by
  unfold State.runStages
  split
  · exact conclude_chain o s l _
  · split
    · exact conclude_chain o s l _
    next hform =>
      split
      · exact conclude_chain o s l _
      · split
        · exact conclude_chain o s l _
        · split
          · exact conclude_chain o s l _
          · split
            · exact conclude_chain o s l _
            · unfold State.stageKinds
              dsimp only
              split
              · exact ((takeHello_chain o s _ _ _ hsig).trans (updateLinkFromFrame_chain o _ _ _ _ hsig)).trans
                  (conclude_chain o _ l _)
              · have hup := updateLinkFromFrame_chain o s l.link l.signal l.rate hsig
                split
                · exact hup.trans (stageNotice_chain o _ (Bool.eq_false_iff.2 hform))
                · exact hup.trans (stageData_chain o _ l)

/-- A landing that finds the wait list full. -/
theorem overflow_chain (o s : State) (l : Landing) : Chain o s (s.overflow l) := by
  have h : Chain o s (State.raise ((s.recordVerdict l (.plain .late)).count .lateVerdicts) .lateVerdict) :=
    ((recordVerdict_chain o s l _).tail (.count _)).trans (.other rfl)
  unfold State.overflow
  dsimp only
  split
  · exact h.trans (releaseLanding_chain o _ _)
  · exact h

/-- A landing handed to the Verdict Unit. -/
theorem submit_chain (o s : State) (l : Landing) (hsig : -128 ≤ l.signal ∧ l.signal ≤ 127) :
    Chain o s (s.submit l) := by
  unfold State.submit
  split
  · exact runStages_chain o s l fun _ => hsig
  · split
    · exact (Change.queue l ‹_› hsig).chain
    · exact overflow_chain o s l

/-- A landing's signal level is a signed byte (R35). -/
theorem landingOf_signal (k : SlotNo) (p : Port) (ws : HeaderWords) (ms : HeaderMarks) (d : Word) (be : Enables) :
    -128 ≤ (landingOf k p ws ms d be).signal ∧ (landingOf k p ws ms d be).signal ≤ 127 := by
  have hlo := BitVec.le_toInt (bitField (d &&& laneMask be) 8 8)
  have hhi := BitVec.toInt_lt (x := bitField (d &&& laneMask be) 8 8)
  exact ⟨hlo, Int.le_of_lt_add_one hhi⟩

/-- A landing write at the tap. -/
theorem tapLanding_chain (o s : State) (a : WriteAccess) (n : LinkName) : Chain o s (s.tapLanding a n) := by
  unfold State.tapLanding
  split
  · exact .other rfl
  · exact (Change.memory _ _ _).chain

/-- A landing. -/
theorem land_chain (o s : State) (p : Port) (k : SlotNo) (a : WriteAccess) : Chain o s (s.land p k a) := by
  unfold State.land
  dsimp only
  refine .trans (.trans (.tail (.other ?_) (.count _)) (tapLanding_chain o _ a _)) (submit_chain o _ _ (landingOf_signal ..))
  rfl

/-- A landing hold's expiry. -/
theorem landingHoldExpiry_chain (o s : State) : Chain o s s.landingHoldExpiry := by
  unfold State.landingHoldExpiry
  split
  · dsimp only
    generalize hb : verdictByte .late 0 (s.staleFlag _) = b
    suffices h : Chain o (s.releaseLanding b) (s.releaseLanding b).unholdLandings from
      (((releaseLanding_chain o s b).trans h).tail (.count _)).trans (.other rfl)
    generalize s.releaseLanding b = t
    refine .tail (Change.waiting t.verdicts.waiting (fun l => { l with held := false }) (List.Sublist.refl _)
      fun _ => rfl).chain (.mapWork (fun w => { w with landing := { w.landing with held := false } }) (fun _ => rfl)
      fun _ => Iff.rfl)
  · exact .refl s

/-! ### Slots and passes -/

/-- A slot's new use disowns its landings. -/
theorem disownRecord_chain (o s : State) (k : SlotNo) : Chain o s (s.disownRecord k) := by
  have hwords (l : Landing) : (l.unless k).words = l.words := by unfold Landing.unless; split <;> rfl
  refine .tail (Change.waiting s.verdicts.waiting (fun l => l.unless k) (List.Sublist.refl _) fun l => ?_).chain
    (.mapWork (fun w => { w with landing := w.landing.unless k }) (fun w => hwords _) fun _ => Iff.rfl)
  unfold Landing.unless
  split <;> rfl

/-- The end of what a slot did, for a receive pass. -/
theorem endForFill_chain (o s : State) (k : SlotNo) : Chain o s (s.endForFill k) := by
  unfold State.endForFill
  dsimp only
  split
  · exact .refl s
  · exact .refl s
  · exact .refl s
  · exact (Change.count _).chain
  · cases (s.slot k).passPort <;> exact (Change.count _).chain.trans (.other rfl)
  · exact (Change.count _).chain

/-- The end of what a slot did, for a transmit pass. -/
theorem endForSend_chain (o s : State) (k : SlotNo) : Chain o s (s.endForSend k) := by
  unfold State.endForSend
  dsimp only
  split
  · exact (Change.count _).chain
  · cases (s.slot k).passPort <;> exact (Change.count _).chain.trans (.other rfl)
  all_goals exact .refl s

/-- An abandoned fill. -/
theorem abandonOther_chain (o s : State) (p : Port) (k : SlotNo) : Chain o s (s.abandonOther p k) := by
  unfold State.abandonOther
  split
  · exact .refl s
  · exact (Chain.other rfl).tail (.count _)

/-- A superseded pass. -/
theorem supersedeOther_chain (o s : State) (p : Port) (k : SlotNo) : Chain o s (s.supersedeOther p k) := by
  unfold State.supersedeOther
  split
  · exact .refl s
  · exact (Chain.other rfl).tail (.count _)

/-- A slot record set. -/
theorem setSlot_chain (o s : State) (k : SlotNo) (r : SlotRecord) : Chain o s (s.setSlot k r) := .other rfl

/-- A receive header write. -/
theorem headerAccess_chain (o s : State) (p : Port) (k : SlotNo) (w : HeaderIx) (a : WriteAccess) :
    Chain o s (s.headerAccess p k w a) := by
  refine (Change.memory a.addr a.data a.be).chain.trans ?_
  show Chain o (s.passing a) ((s.passing a).receiveHeader p k w a.data a.be)
  generalize s.passing a = t
  unfold State.receiveHeader
  dsimp only
  split
  · exact setSlot_chain o t k _
  · exact (((endForFill_chain o t k).trans (abandonOther_chain o _ p k)).trans (disownRecord_chain o _ k)).trans
      (setSlot_chain o _ k _)

/-- A software header write. -/
theorem softwareAccess_chain (o s : State) (k : SlotNo) (w : HeaderIx) (a : WriteAccess) :
    Chain o s (s.softwareAccess k w a) :=
  (Change.memory a.addr a.data a.be).chain.trans (.of_eq (State.softwareHeader_eq _ k w a.data a.be) rfl)

/-- A stray landing. -/
theorem landStray_chain (o s : State) (p : Port) (k : SlotNo) (a : WriteAccess) : Chain o s (s.landStray p k a) := by
  unfold State.landStray
  dsimp only
  refine .trans (.trans (.tail (.trans (.trans (endForFill_chain o s k) (disownRecord_chain o _ k)) (.other ?_)) (.count _))
    (tapLanding_chain o _ a _)) (announce_chain o _ _ _)
  rfl

/-- A matched outcome. -/
theorem matchedAccess_chain (o s : State) (k : SlotNo) (a : WriteAccess) : Chain o s (s.matchedAccess k a) := by
  refine (Change.memory a.addr a.data a.be).chain.trans ?_
  show Chain o (s.passing a) ((s.passing a).takeOutcome k a.data)
  generalize s.passing a = t
  unfold State.takeOutcome
  dsimp only
  split
  · exact .other rfl
  next n hn =>
    refine (Chain.other (t := t.setSlot k (t.slot k).waitOver) rfl).trans ?_
    unfold State.appendOutcome
    split
    · have hatt : (outcomeOf n a.data).attempts < 2 ^ 4 := BitVec.isLt _
      exact (Change.outcome _ ‹_› (by omega)).chain
    · exact (Change.count _).chain.trans (.other rfl)

/-- An own sequence's advance. -/
theorem advanceSequence_chain (o s : State) (t : Treatment) : Chain o s (s.advanceSequence t) :=
  .of_eq (s.advanceSequence_eq t) rfl

/-- A pass bound. -/
theorem bindPass_chain (o s : State) (p : Port) (b : Binding) : Chain o s (s.bindPass p b) :=
  .of_eq (s.bindPass_eq p b) rfl

/-- A pass begun. -/
theorem beginPass_chain (o s : State) (p : Port) (k : SlotNo) (a : WordAddr) : Chain o s (s.beginPass p k a) := by
  unfold State.beginPass
  dsimp only
  generalize hs1 : (s.endForSend k).supersedeOther p k = s1
  have h1 : Chain o s s1 := hs1 ▸ (endForSend_chain o s k).trans (supersedeOther_chain o _ p k)
  generalize ({ s1.slot k with
    state := .inSend, passPort := some p, progress := 0, deadline := none, sentLink := none } : SlotRecord) = r
  have h2 : Chain o s ((s1.setSlot k r).advanceSequence (s1.treatmentOf r)) :=
    (h1.trans (.other rfl)).trans (advanceSequence_chain o _ _)
  split
  · exact h2.trans (.other rfl)
  · exact (h2.trans (bindPass_chain o _ p _)).trans (.other rfl)

/-- A word of a pass. -/
theorem readPassWord_chain (o s : State) (p : Port) (k : SlotNo) (w : HeaderIx) (a : WordAddr) :
    Chain o s (s.readPassWord p k w a) := by
  unfold State.readPassWord
  dsimp only
  split
  · exact .other rfl
  · split <;> exact .other rfl

/-- A pass-start lookup's answer. -/
theorem answerLookup_chain (o s : State) (p : Port) (b : Binding) : Chain o s (s.answerLookup p b) := by
  have h : Chain o s ((s.bindPass p (s.answeredBinding p b).1).releaseRead (s.word2 (s.answeredBinding p b).1.receiver)) :=
    (bindPass_chain o s p _).trans (.other rfl)
  unfold State.answerLookup State.countIf
  dsimp only
  split
  · exact h.tail (.count _)
  · exact h

/-- A pass-start hold's expiry. -/
theorem passStartHoldExpiry_chain (o s : State) : Chain o s s.passStartHoldExpiry := by
  unfold State.passStartHoldExpiry
  split
  · split
    · exact .refl s
    · exact ((bindPass_chain o s _ _).trans (.other rfl)).tail (.count _)
  · exact .refl s

/-! ### Steps on tables -/

/-- The end of another requester's step. -/
theorem afterOtherStep_chain (o s : State) : Chain o s s.afterOtherStep := by
  refine (Change.mapWork (fun w => match w.phase with
    | .choosing m p i _ => { w with phase := .choosing m p i none }
    | _ => w) (fun w => ?_) fun w => ?_).chain
  · split <;> rfl
  · split
    next h => simp [h]
    next => exact Iff.rfl

/-- A completion. -/
theorem completeRunning_chain (o s : State) (r : Result) : Chain o s (s.completeRunning r) :=
  (Change.idle { s.command with running := false, result := r } rfl).chain.trans (.other rfl)

/-- What PIN ROUTE writes into an entry lies in the range of a pin (R113). -/
theorem State.Rerouted.pin {s : State} (e : RouteEntry) (hr : s.command.running = true) (hc : s.command.code = 0x20#8) :
    s.Rerouted e { e with pin := some s.pinNamed } where
  dest := rfl
  used := id
  active := id
  length := id
  nodup := id
  names _ h := .inl h
  range hp h := by
    obtain ⟨hage, hpr, halt, -, hstamp⟩ := h
    refine ⟨hage, hpr, halt, fun p hpin => ?_, hstamp⟩
    cases hpin
    have hne := (hp hr hc).1
    have hlt := (loHalf s.arg2).isLt
    have hnat : (loHalf s.arg2).toNat ≠ 65535 := fun h => hne (BitVec.eq_of_toNat_eq h)
    show (loHalf s.arg2).toNat ≤ 65534
    omega

/-- An entry that loses its pin. -/
theorem State.Rerouted.unpin (s : State) (e : RouteEntry) : s.Rerouted e { e with pin := none } :=
  ⟨rfl, id, id, id, id, fun _ h => .inl h, fun _ h => ⟨h.1, h.2.1, h.2.2.1, nofun, h.2.2.2.2⟩⟩

/-- The step of PIN ROUTE. -/
theorem pinStepBody_chain (hr : s.command.running = true) (hc : s.command.code = 0x20#8) : Chain o s s.pinStepBody := by
  unfold State.pinStepBody
  dsimp only
  split
  next i hi =>
    exact (reselect_chain (State.findRoute_some hi).1 (.pin _ hr hc)).trans (completeRunning_chain o _ _)
  next hnone =>
    split
    next i hi =>
      have htake : Change o s (s.setRoute i (RouteEntry.taken (hiHalf s.arg1) none false)) :=
        .takeRoute i _ _ _ hnone (.inr ⟨hr, hc, rfl⟩)
      unfold State.pinEntry
      rw [← s.reselect_setRoute i (RouteEntry.taken (hiHalf s.arg1) none false)]
      refine (htake.chain.trans (reselect_chain ?_ ?_)).trans (completeRunning_chain o _ _)
      · rw [State.route_setRoute_same]; exact nofun
      · rw [State.route_setRoute_same]; exact .pin _ hr hc
    next => exact completeRunning_chain o s _

/-- The step of UNPIN. -/
theorem unpinStepBody_chain (o s : State) : Chain o s s.unpinStepBody := by
  unfold State.unpinStepBody
  split
  · exact completeRunning_chain o s _
  next i hi =>
    split
    · exact (reselect_chain (State.findRoute_some hi).1 (.unpin s _)).trans (completeRunning_chain o _ _)
    · exact completeRunning_chain o s _

/-- The step of READ ROUTE. -/
theorem readRouteStepBody_chain (o s : State) : Chain o s s.readRouteStepBody := by
  unfold State.readRouteStepBody
  split
  · exact completeRunning_chain o s _
  · exact (Chain.other rfl).trans (completeRunning_chain o _ _)

/-- The step of READ WANTED. -/
theorem readWantedStepBody_chain (o s : State) : Chain o s s.readWantedStepBody := by
  unfold State.readWantedStepBody
  dsimp only
  refine .trans ?_ (completeRunning_chain o _ _)
  split
  · exact (Change.wanted _ List.filter_sublist).chain.trans (.other rfl)
  · exact .other rfl

/-- The step of RELEASE WANTED. -/
theorem releaseWantedStepBody_chain (o s : State) : Chain o s s.releaseWantedStepBody := by
  unfold State.releaseWantedStepBody
  dsimp only
  split
  · exact (Change.wanted _ List.filter_sublist).chain.trans (completeRunning_chain o _ _)
  · exact completeRunning_chain o s _

/-- A candidate that a walk keeps is not over a link of its evict set (R124). -/
theorem State.keepsCandidate_not_mem {s : State} {w : Walk} {c : Candidate} (h : s.keepsCandidate w c = true) :
    c.link ∉ w.evict := by
  simp only [State.keepsCandidate, Bool.and_eq_true, Bool.not_eq_true', List.contains_eq_mem, decide_eq_false_iff_not] at h
  exact h.1

/-- A walk's visit leaves an entry that is EMPTY, or that names links it is allowed to. -/
theorem walkEntry_chain {w : Walk} (o s : State) :
    Chain o s (s.walkEntry w) ∧
    (((s.walkEntry w).route w.next).state = .empty ∨
      ∀ i, ((s.walkEntry w).route w.next).names i → i ∉ w.evict ∨ (s.link i).state = .live) := by
  unfold State.walkEntry
  dsimp only
  split
  case isTrue he => exact ⟨.refl s, .inl he⟩
  case isFalse he =>
    have hempty (e : RouteEntry) : Chain o s (s.emptyEntry w.next e) ∧
        ((s.emptyEntry w.next e).route w.next).state = .empty := by
      refine ⟨(Change.emptyRoute w.next).chain.trans (raiseIf_chain o _ _ _), ?_⟩
      rw [State.emptyEntry_eq]
      simp [State.route, RouteEntry.empty]
    have hre := State.Rerouted.visited s w (s.route w.next)
    have hkeep : ∀ c ∈ (if w.refresh then (s.trimmed w (s.route w.next)).aged else s.trimmed w (s.route w.next)).candidates,
        c.link ∉ w.evict := by
      intro c hc
      have hmem : c ∈ (s.trimmed w (s.route w.next)).candidates := by split at hc <;> exact hc
      exact State.keepsCandidate_not_mem (List.mem_filter.1 hmem).2
    split
    case isTrue => exact ⟨(hempty _).1, .inl (hempty _).2⟩
    case isFalse =>
      generalize (if w.refresh then (s.trimmed w (s.route w.next)).aged else s.trimmed w (s.route w.next)) = e at hre hkeep ⊢
      split
      case isTrue => exact ⟨(hempty _).1, .inl (hempty _).2⟩
      case isFalse =>
        refine ⟨reselect_chain he hre, .inr fun i hi => ?_⟩
        have hroute : (s.reselect w.next e).route w.next = s.selected e := by
          rw [State.reselect_eq]; simp [State.route]
        rw [hroute] at hi
        exact (State.selected_names hi).imp_left fun ⟨c, hc, hci⟩ => hci ▸ hkeep c hc

/-! ### Resets -/

/-- The work that a reset's beginning discards. -/
theorem discardWork_chain (o s : State) : Chain o s s.discardWork := by
  unfold State.discardWork
  dsimp only
  refine (releaseUnaltered_chain o s).trans ?_
  generalize s.releaseUnaltered = t
  exact (((Change.endWork.chain.tail (.waiting [] id (List.nil_sublist _) fun _ => rfl)).tail .floodClear).trans
    (.other rfl))

/-- A reset's end. -/
theorem endReset_chain (o s : State) (straps : Fin 8) {c : ResetCause} (h : c.count ≤ 255) :
    Chain o s (s.endReset straps c) :=
  (Change.reset straps s.bus.readData s.pending s.now c h CommandEngine.reset rfl).chain

/-- A power-on reset's ends. -/
theorem powerOn_chain (o s : State) (m : PowerMoment) : Chain o s (s.powerOn m) := by
  cases m with
  | applied => exact (discardWork_chain o s).trans (.other rfl)
  | stable straps =>
    show Chain o s (s.powerStable straps)
    unfold State.powerStable
    dsimp only
    split
    · exact (discardWork_chain o s).trans (.other rfl)
    · exact (discardWork_chain o s).trans (endReset_chain o _ straps (by decide))

/-- The release of the RESET line. -/
theorem resetReleased_chain (o s : State) (straps : Fin 8) : Chain o s (s.resetReleased straps) := by
  unfold State.resetReleased
  split
  · split
    · exact endReset_chain o s straps (Nat.min_le_left ..)
    · exact endReset_chain o s straps (by decide)
    · exact .other rfl
  · exact .refl s

end Sys2Proof.Machine
end

section
/-! PROOFS. What a taken command does, and with it every act of the part, is a chain of elementary changes. -/

namespace Sys2Proof.Machine

variable {o s : State}

/-! ### Fields of the arguments -/

/-- A field brought into its range lies in it (R168). -/
theorem clampInto_range {lo hi : Nat} (h : lo ≤ hi) (n : Nat) : lo ≤ clampInto lo hi n ∧ clampInto lo hi n ≤ hi := by
  unfold clampInto
  split
  · omega
  · split <;> omega

/-- A field is below the power of its length. -/
theorem numField_lt (w : Word) (lo len : Nat) : numField w lo len < 2 ^ len := (bitField w lo len).isLt

/-- The settings that SET TIMING leaves are in their ranges (R168). -/
theorem Settings.withTiming_inRange {c : Settings} (a1 a2 a3 : Word) (h : c.inRange) :
    (c.withTiming a1 a2 a3).inRange := by
  obtain ⟨-, -, -, -, -, -, -, -, -, -, hhop, hhyst, hfloor, hsignal⟩ := h
  have hsample := clampInto_range (lo := 2) (hi := 255) (by decide) (numField a1 24 8)
  exact ⟨⟨Nat.mul_le_mul_left 10 hsample.1, Nat.mul_le_mul_left 10 hsample.2⟩, clampInto_range (by decide) _,
    clampInto_range (by decide) _, clampInto_range (by decide) _, clampInto_range (by decide) _,
    clampInto_range (by decide) _, clampInto_range (by decide) _, clampInto_range (by decide) _,
    clampInto_range (by decide) _, clampInto_range (by decide) _, hhop, hhyst, hfloor, hsignal⟩

/-- The settings that SET METRIC leaves are in their ranges (R169). -/
theorem Settings.withMetric_inRange {c : Settings} (a1 a2 : Word) (h : c.inRange) : (c.withMetric a1 a2).inRange := by
  obtain ⟨hsample, hroute, hdead, hprob, hsettle, hflood, hwait, hhold, hout, hpurge, -, -, -, -⟩ := h
  refine ⟨hsample, hroute, hdead, hprob, hsettle, hflood, hwait, hhold, hout, hpurge,
    Nat.le_of_lt_succ (numField_lt a1 24 8), (clampInto_range (Nat.zero_le _) _).2, (clampInto_range (Nat.zero_le _) _).2, ?_⟩
  have hlo := BitVec.le_toInt (bitField a2 0 8)
  show -128 ≤ clampFloor (bitField a2 0 8) ∧ clampFloor (bitField a2 0 8) ≤ 0
  unfold clampFloor
  split
  · decide
  · exact ⟨hlo, by omega⟩

/-- Of a list without repetitions at most one place is counted, so two that are counted are one. -/
theorem eq_of_countP_finRange_le_one {n : Nat} {p : Fin n → Bool} (h : (List.finRange n).countP p ≤ 1) {i j : Fin n}
    (hi : p i = true) (hj : p j = true) : i = j := by
  have hmem (k : Fin n) (hk : p k = true) : k ∈ (List.finRange n).filter p :=
    List.mem_filter.2 ⟨List.mem_finRange k, hk⟩
  have hi' := hmem i hi
  have hj' := hmem j hj
  rw [List.countP_eq_length_filter] at h
  match hl : (List.finRange n).filter p with
  | [] => rw [hl] at hi'; cases hi'
  | [x] => rw [hl, List.mem_singleton] at hi' hj'; rw [hi', hj']
  | x :: y :: l => rw [hl] at h; simp at h

/-- Roles that are not refused give a mesh port to one initiator at most (R3). -/
theorem rolesOf_unique {w : Word} (h : rolesRefused w = false) (i j : Initiator) (p : Port)
    (hi : (rolesOf w)[i.val] = .mesh p) (hj : (rolesOf w)[j.val] = .mesh p) : i = j := by
  have hfield (k : Initiator) (hk : (rolesOf w)[k.val] = .mesh p) : (roleField w k == some (.mesh p)) = true := by
    simp only [rolesOf, Vector.getElem_ofFn] at hk
    cases hr : roleField w k with
    | none => rw [hr] at hk; cases hk
    | some r => rw [hr] at hk; simpa using hk
  have hcount : (List.finRange 8).countP (fun i => roleField w i == some (.mesh p)) ≤ 1 := by
    simp only [rolesRefused, Bool.or_eq_false_iff, List.any_eq_false, decide_eq_true_eq] at h
    exact Nat.le_of_not_lt (h.2 p (List.mem_finRange p))
  exact eq_of_countP_finRange_le_one hcount (hfield i hi) (hfield j hj)

/-! ### The commands -/

/-- A result. -/
theorem finish_chain (o s : State) (r : Result) : Chain o s (s.finish r) := .other rfl

/-- SET IDENTITY. -/
theorem setIdentity_chain (idle : s.command.running = false)
    (quiet : s.engine.state = .transparent → o.transparentIsQuiet → s.verdicts.work = none) : Chain o s s.setIdentity := by
  unfold State.setIdentity
  split
  · exact finish_chain o s _
  next hstop =>
    split
    · exact finish_chain o s _
    next hnode =>
      have htransparent := State.engineRuns_false.1 (Bool.eq_false_iff.2 hstop)
      exact (Change.identify (hiHalf s.arg1) (loHalf s.arg1) (Bool.eq_false_iff.2 hnode) idle
        (quiet htransparent)).chain.trans (.other rfl)

/-- SET REGION. -/
theorem setRegion_chain (o s : State) : Chain o s s.setRegion := by
  unfold State.setRegion
  dsimp only
  split
  · exact finish_chain o s _
  · split
    next h =>
      unfold State.changeRegion
      dsimp only
      split
      · exact (Change.dropRegion _).chain.trans (finish_chain o _ _)
      next hcount =>
        split
        · exact finish_chain o s _
        next hfits =>
          have hr : 1 ≤ numField s.arg2 0 16 ∧ numField s.arg2 0 16 ≤ 256 := ⟨by omega, h.2.2⟩
          exact (Change.region _ _ hr (Bool.eq_false_iff.2 hfits)).chain.trans (finish_chain o _ _)
    next => exact finish_chain o s _

/-- SET ROLES. -/
theorem setRoles_chain (o s : State) : Chain o s s.setRoles := by
  unfold State.setRoles
  split
  · exact finish_chain o s _
  · split
    · exact finish_chain o s _
    next h => exact (Change.roles _ (rolesOf_unique (Bool.eq_false_iff.2 h))).chain.trans (finish_chain o _ _)

/-- SET TIMING. -/
theorem setTiming_chain (o s : State) : Chain o s s.setTiming := by
  refine .trans ((Change.settings (s.settings.withTiming s.arg1 s.arg2 s.arg3)
    (Settings.withTiming_inRange _ _ _)).chain.trans ?_) (finish_chain o _ _)
  unfold State.reloadTimer
  split
  · exact .other rfl
  · exact .refl _

/-- SET METRIC. -/
theorem setMetric_chain (o s : State) : Chain o s s.setMetric :=
  (Change.settings (s.settings.withMetric s.arg1 s.arg2) (Settings.withMetric_inRange _ _)).chain.trans (finish_chain o _ _)

/-- A START that passes its tests. -/
theorem begin_chain (stopped : s.engine.state = .transparent) : Chain o s s.begin := by
  have hdying : ∀ i ∈ s.dyingLinks, (s.link i).state.dying = true := fun i hi => (List.mem_filter.1 hi).2
  have h1 : Chain o s (s.mergeEvict s.dyingLinks) := (Change.mergeEvict _ hdying stopped).chain
  have h2 : Chain o s { s.mergeEvict s.dyingLinks with
      slots := Vector.replicate 512 SlotRecord.vacant
      engine := { s.engine with nextExpiry := some (s.now + s.settings.sampleInterval) }
      purge := { s.purge with window := if s.purge.set.isEmpty then none else some (s.now + s.settings.purgeWindow) } } :=
    h1.trans (.other rfl)
  exact ((h2.tail .floodClear).tail (.engine .learning 0 nofun fun _ _ => ⟨Nat.zero_le _, fun _ => Nat.zero_lt_succ _⟩)).tail
    .beginWalk

/-- START. -/
theorem start_chain (o s : State) : Chain o s s.start := by
  unfold State.start
  split
  · exact finish_chain o s _
  next h =>
    have hstop : s.engine.state = .transparent := by
      unfold State.startRefusal at h
      split at h
      · cases h
      next hr => exact State.engineRuns_false.1 (Bool.eq_false_iff.2 hr)
    exact (begin_chain hstop).trans (finish_chain o _ _)

/-- STOP. -/
theorem stop_chain (o s : State) : Chain o s s.stop := by
  unfold State.stop
  split
  case isFalse => exact finish_chain o s _
  case isTrue =>
    refine .trans ?_ (finish_chain o s.halt _)
    have h1 : Chain o s { s with verdicts := { s.verdicts with work := none, waiting := [] } } :=
      Change.endWork.chain.tail (.waiting [] id (List.nil_sublist _) fun _ => rfl)
    exact (((h1.tail (.outcomes [] (List.nil_sublist _))).tail .haltWalk).trans
      (.other (t := { s.halt with engine := s.engine }) rfl)).tail (.stop rfl)

/-- RESTART. -/
theorem restart_chain (o s : State) : Chain o s s.restart :=
  (Change.reset s.bus.position s.bus.readData s.pending s.now _ (Nat.min_le_left ..)
    { CommandEngine.reset with code := 0x12, result := .done } rfl).chain

/-- A command that is not PIN ROUTE goes RUNNING. -/
theorem goRunning_chain {code : Byte} (hc : s.command.code = code) (hne : code ≠ 0x20#8) : Chain o s s.goRunning :=
  (Change.run fun h => absurd (hc ▸ h) hne).chain

/-- PIN ROUTE at its go write. -/
theorem pinRoute_chain (o s : State) : Chain o s s.pinRoute := by
  unfold State.pinRoute
  split
  · exact finish_chain o s _
  next h => exact (Change.run fun _ => Bool.eq_false_iff.2 h).chain

/-- A node joins the bar list. -/
theorem joinBars_chain {n : LinkName} (h : s.barFull n = false) : Chain o s (s.joinBars n.node) := by
  unfold State.joinBars
  split
  case isFalse => exact .refl s
  case isTrue hjoin =>
    simp only [Bool.and_eq_true, Bool.not_eq_true', List.contains_eq_mem, decide_eq_false_iff_not] at hjoin
    refine (Change.barJoin n.node hjoin.2 ?_).chain
    simpa [State.barFull, hjoin.1, hjoin.2] using h

/-- A pair joins the purge set. -/
theorem joinPurge_chain {n : LinkName} {i : LinkIx} (he : (s.link i).state.estimated = true)
    (h : s.purgeFull n i = false) : Chain o s (s.joinPurge n) := by
  unfold State.joinPurge
  split
  case isTrue => exact .other rfl
  case isFalse hnew =>
    have hmem : n ∉ s.purge.set := by simpa using hnew
    refine (Change.purgeJoin n hmem ?_).chain.trans (.other rfl)
    simpa [State.purgeFull, he, hmem] using h

/-- PURGE ADD. -/
theorem purgeAdd_chain (o s : State) : Chain o s s.purgeAdd := by
  unfold State.purgeAdd
  split
  · exact finish_chain o s _
  · split
    · exact finish_chain o s _
    next n hn =>
      split
      · exact finish_chain o s _
      next i hi =>
        split
        · exact finish_chain o s _
        next hroom =>
          simp only [Bool.or_eq_true, not_or, Bool.not_eq_true] at hroom
          refine .trans ?_ (finish_chain o _ _)
          split
          case isTrue he => exact (joinPurge_chain he hroom.1).trans (joinBars_chain hroom.2)
          case isFalse => exact joinBars_chain hroom.2

/-- PURGE CANCEL. -/
theorem purgeCancel_chain (o s : State) : Chain o s s.purgeCancel :=
  (Change.purge [] s.purge.bars (List.nil_sublist _) (List.Sublist.refl _)).chain.trans (.other rfl)

/-- UNBAR. -/
theorem unbar_chain (o s : State) : Chain o s s.unbar := by
  unfold State.unbar
  split
  · exact (Change.purge s.purge.set _ (List.Sublist.refl _) List.filter_sublist).chain.trans (finish_chain o _ _)
  · exact finish_chain o s _

/-- FLUSH ROUTES. -/
theorem flushRoutes_chain (hc : s.command.code = 0x25#8) : Chain o s s.flushRoutes := by
  unfold State.flushRoutes
  split
  · exact (goRunning_chain hc (by decide)).trans (requestFlush_chain o _)
  · exact finish_chain o s _

/-- READ LINK. -/
theorem readLink_chain (o s : State) : Chain o s s.readLink := by
  unfold State.readLink
  split
  · exact .other rfl
  · exact finish_chain o s _

/-- READ SLOT. -/
theorem readSlot_chain (o s : State) : Chain o s s.readSlot := by
  unfold State.readSlot
  split
  · exact .other rfl
  · exact finish_chain o s _

/-- A body chosen by the code: the code's own, or that of the codes after it. -/
theorem ite_body_chain {c : Prop} [Decidable c] {f g : State → State} (hf : c → Chain o s (f s)) (hg : Chain o s (g s)) :
    Chain o s ((if c then f else g) s) := by
  split
  · exact hf ‹_›
  · exact hg

/-- What a taken command does, by its code. -/
theorem commandBody_chain (idle : s.command.running = false)
    (quiet : s.engine.state = .transparent → o.transparentIsQuiet → s.verdicts.work = none) {code : Byte}
    (hc : s.command.code = code) : Chain o s (commandBody code s) := by
  have running {c : Byte} (hne : c ≠ 0x20#8) (h : code = c) : Chain o s s.goRunning := goRunning_chain (hc.trans h) hne
  unfold commandBody
  refine ite_body_chain (fun _ => setIdentity_chain idle quiet) ?_
  refine ite_body_chain (fun _ => setRegion_chain o s) ?_
  refine ite_body_chain (fun _ => setRoles_chain o s) ?_
  refine ite_body_chain (fun _ => setTiming_chain o s) ?_
  refine ite_body_chain (fun _ => setMetric_chain o s) ?_
  refine ite_body_chain (fun _ => .other rfl) ?_
  refine ite_body_chain (fun _ => start_chain o s) ?_
  refine ite_body_chain (fun _ => stop_chain o s) ?_
  refine ite_body_chain (fun _ => restart_chain o s) ?_
  refine ite_body_chain (fun _ => pinRoute_chain o s) ?_
  refine ite_body_chain (running (by decide)) ?_
  refine ite_body_chain (fun _ => purgeAdd_chain o s) ?_
  refine ite_body_chain (fun _ => purgeCancel_chain o s) ?_
  refine ite_body_chain (fun _ => unbar_chain o s) ?_
  refine ite_body_chain (fun h => flushRoutes_chain (hc.trans h)) ?_
  refine ite_body_chain (running (by decide)) ?_
  refine ite_body_chain (fun _ => readLink_chain o s) ?_
  refine ite_body_chain (fun _ => readSlot_chain o s) ?_
  refine ite_body_chain (running (by decide)) ?_
  refine ite_body_chain (running (by decide)) ?_
  exact ite_body_chain (fun _ => Change.clearCounters.chain.trans (finish_chain o _ _)) (finish_chain o s _)

/-! ### All acts -/

/-- A granted command step is that of a RUNNING command. -/
theorem State.granted_command {s : State} (h : s.granted .command = true) : s.command.running = true := by
  have := (State.granted_requests h).2
  simp only [State.requests, State.otherRequests, State.commandRequests, reduceCtorEq, if_false, Bool.and_eq_true] at this
  exact this.1

/-- A walk's evicted links leave the neighbour table and the purge set alone. -/
theorem freeEvicted_shape (s : State) (is : List LinkIx) :
    ∃ set ls, is.foldl State.freeEvicted s = { s with purge := { s.purge with set := set }, links := ls } := by
  induction is generalizing s with
  | nil => exact ⟨_, _, rfl⟩
  | cons i is ih =>
    obtain ⟨set, ls, h⟩ := ih (s.freeEvicted i)
    exact ⟨set, ls, h⟩

/-- A walk's completion. -/
theorem completeWalk_chain {w : Walk} (walk : s.walker.walk = some w) (last : ¬ w.next.val + 1 < 256)
    (visited : (s.route w.next).state = .empty ∨
      ∀ i, (s.route w.next).names i → i ∉ w.evict ∨ (s.link i).state = .live) : Chain o s (s.completeWalk w) := by
  have hfree := (Change.completeWalk (o := o) w walk last visited).chain
  unfold State.completeWalk
  dsimp only
  obtain ⟨set, ls, h⟩ := freeEvicted_shape s w.evict
  rw [h] at hfree ⊢
  have hflush (t : State) (ht : Chain o s t) :
      Chain o s (State.beginWalk (if w.flush then t.completeRunning .done else t)) := by
    refine Chain.tail (t := if w.flush then t.completeRunning .done else t) ?_ .beginWalk
    split
    · exact ht.trans (completeRunning_chain o _ _)
    · exact ht
  exact hflush _ (hfree.trans (raiseIf_chain o _ _ .purgeDone))

/-- A walk's step: the visit, and the advance or the completion. -/
theorem walkerStep_chain {w : Walk} (walk : s.walker.walk = some w) : Chain o s ((s.walkEntry w).advanceWalk w) := by
  obtain ⟨hchain, hvisited⟩ := walkEntry_chain (w := w) o s
  have hwalker : (s.walkEntry w).walker.walk = some w := by rw [State.walkEntry_eq]; exact walk
  have hlink (i : LinkIx) : (s.walkEntry w).link i = s.link i := by rw [State.walkEntry_eq]; rfl
  simp only [← hlink] at hvisited
  unfold State.advanceWalk
  split
  next h => exact hchain.tail (.advanceWalk w hwalker h hvisited)
  next h => exact hchain.trans (completeWalk_chain hwalker h hvisited)

/-- The end of another requester's step keeps all but the verdict work. -/
theorem afterOtherStep_command (s : State) : s.afterOtherStep.command = s.command := rfl

/-- Every act of the part is a chain of elementary changes. -/
theorem Move.chain {t : State} (h : Move s t) : Chain s s t := by
  have other : Chain s s s.afterOtherStep := afterOtherStep_chain s s
  cases h with
  | waits => exact .refl s
  | tick => exact .other rfl
  | power m => exact powerOn_chain s s m
  | resetLow => exact (discardWork_chain s s).trans (.other rfl)
  | resetHigh straps => exact resetReleased_chain s s straps
  | write a d be => exact (Change.memory a d be).chain
  | latch a l d be => exact (Change.memory a d be).chain.trans (.other rfl)
  | strayGo a d be => exact (Change.memory a d be).chain.tail (.count _)
  | completeSource a d be n => exact (Change.memory a d be).chain.trans (.of_eq (State.completeSource_eq _ n) rfl)
  | busy a d be code tag => exact (Change.memory a d be).chain.trans (.other rfl)
  | command a d be code tag takes =>
    have htaken : Chain s s ((s.writeMem a d be).taken code tag) := (Change.memory a d be).chain.tail (.idle _ rfl)
    refine htaken.trans (commandBody_chain rfl (fun hstop hquiet => ?_) rfl)
    obtain ⟨-, hwork, -⟩ := hquiet hstop
    exact hwork
  | answer w => exact .other rfl
  | claim =>
    unfold State.claim
    split <;> exact .other rfl
  | software k w a => exact softwareAccess_chain s s k w a
  | header p k w a => exact headerAccess_chain s s p k w a
  | landing p k a => exact land_chain s s p k a
  | strayLanding p k a => exact landStray_chain s s p k a
  | matched p k a => exact matchedAccess_chain s s k a
  | unmatched a => exact (Change.memory a.addr a.data a.be).chain.tail (.count _)
  | passStart p k a => exact beginPass_chain s s p k a
  | passWord p k w a => exact readPassWord_chain s s p k w a
  | pinStep granted code => exact other.trans (pinStepBody_chain (State.granted_command (s := s) granted) code)
  | unpinStep => exact other.trans (unpinStepBody_chain s _)
  | readRouteStep => exact other.trans (readRouteStepBody_chain s _)
  | readWantedStep => exact other.trans (readWantedStepBody_chain s _)
  | releaseWantedStep => exact other.trans (releaseWantedStepBody_chain s _)
  | takeWaiting l ls live idle waiting =>
    have hpop : Chain s s { s with verdicts := { s.verdicts with waiting := ls } } :=
      (Change.waiting ls id (waiting ▸ List.sublist_cons_self l ls) fun _ => rfl).chain.to_eq (by rw [List.map_id])
    exact hpop.trans (runStages_chain s _ l fun h => h l (by rw [waiting]; exact List.mem_cons_self ..))
  | landingHoldExpiry => exact landingHoldExpiry_chain s s
  | learn l m perm granted work => exact learn_chain work
  | choose l m perm i first => exact choose_chain s s l m perm i
  | lookup l => exact lookupForward_chain s s l
  | passLookup p b => exact other.trans (answerLookup_chain s _ p b)
  | passStartHoldExpiry => exact passStartHoldExpiry_chain s s
  | deadline k t => exact (Chain.other (s := s) (t := (s.reach t).setSlot k (s.slot k).waitOver) rfl).tail (.count _)
  | outcomeJob x rest live queue =>
    exact (Change.outcomes rest (queue ▸ List.sublist_cons_self x rest)).chain.trans (applyOutcome_chain s _ x)
  | sampleExpiry => exact sampleExpiry_chain s s
  | sweepBegin => exact .other rfl
  | sweepVisit i => exact (visitLink_chain s s i).trans (advanceSweep_chain s _ i)
  | purgeWindow => exact purgeWindowExpiry_chain s s
  | walkerStep w granted walk => exact other.trans (walkerStep_chain walk)

/-- What every elementary change keeps, and does not look at the queue, every step keeps. -/
theorem step_keeps_of_change {P : State → Prop} (hq : ∀ s rest, P s → P { s with pending := rest })
    (hc : ∀ o s t, P o → P s → Change o s t → P t) {s t : State} (hs : P s) (h : step s = .next t) : P t :=
  step_keeps hq (fun s _ hs hm => hm.chain.keeps (fun u v => hc s u v hs) hs) hs h

end Sys2Proof.Machine
end

section
/-! PROOFS. The invariants over tables, lists and numbers: packet memory, capacities and ranges (O51 to O53). Each clause is kept by
every elementary change. -/

namespace Sys2Proof.Machine

variable {o s t : State}

/-! ### Tables after an update -/

/-- What all other entries have and the new one has, all entries have after an update. -/
theorem State.forall_route_setRoute {P : RouteIx → RouteEntry → Prop} {r : RouteIx} {e : RouteEntry}
    (h : ∀ i, i ≠ r → P i (s.route i)) (he : P r e) (i : RouteIx) : P i ((s.setRoute r e).route i) := by
  by_cases hi : i = r
  · subst hi; rw [State.route_setRoute_same]; exact he
  · rw [State.route_setRoute_other s e hi]; exact h i hi

/-- What all other links have and the new one has, all links have after an update. -/
theorem State.forall_link_setLink {P : LinkIx → Link → Prop} {i : LinkIx} {l : Link}
    (h : ∀ j, j ≠ i → P j (s.link j)) (hl : P i l) (j : LinkIx) : P j ((s.setLink i l).link j) := by
  by_cases hj : j = i
  · subst hj; rw [State.link_setLink_same]; exact hl
  · rw [State.link_setLink_other s l hj]; exact h j hj

/-- The links after a walk's links are freed. -/
theorem link_foldl_freeEvicted (s : State) (is : List LinkIx) (i : LinkIx) :
    (is.foldl State.freeEvicted s).link i = if i ∈ is then Link.free else s.link i := by
  induction is generalizing s with
  | nil => rfl
  | cons j is ih =>
    rw [List.foldl_cons, ih]
    by_cases hi : i = j
    · subst hi
      simp [State.freeEvicted]
    · have hother : (s.freeEvicted j).link i = s.link i := State.link_setLink_other _ _ hi
      simp [hother, hi]

/-- Links that are freed leave the purge set, and nothing joins it. -/
theorem purgeSet_foldl_freeEvicted (s : State) (is : List LinkIx) :
    (is.foldl State.freeEvicted s).purge.set.Sublist s.purge.set := by
  induction is generalizing s with
  | nil => exact List.Sublist.refl _
  | cons j is ih => exact (ih _).trans List.filter_sublist

/-- A walk begins or does not. -/
theorem State.beginWalk_cases (s : State) :
    s.beginWalk = s ∨ (s.walker.walk = none ∧ s.engine.state ≠ .transparent ∧
      s.beginWalk =
        { s with walker :=
            { refresh := false, flush := false, evict := []
              walk := some { refresh := s.walker.refresh, flush := s.walker.flush, evict := s.walker.evict, next := 0 } } }) := by
  unfold State.beginWalk
  split
  next h =>
    simp only [Bool.and_eq_true, Option.isNone_iff_eq_none, State.engineRuns, bne_iff_ne] at h
    exact .inr ⟨h.1.1, h.2, rfl⟩
  next => exact .inl rfl

/-- The route entry and the wanted entry of a node leave their tables, and nothing else changes (R97). -/
theorem State.forgetNode_eq (s : State) (d : Node) :
    s.forgetNode d =
      { s with wanted := s.wanted.filter fun w => w.dest != d, routes := (s.forgetNode d).routes } := by
  unfold State.forgetNode
  dsimp only
  split <;> rfl

/-- What holds for the EMPTY entry, for an entry newly taken, and is kept by updates of entries in use, holds for all entries. -/
theorem Change.forall_route {P : RouteEntry → Prop} (h : Change o s t) (empty : P RouteEntry.empty)
    (taken : ∀ d q g, P (RouteEntry.taken d q g)) (rerouted : ∀ e e', s.Rerouted e e' → P e → P e')
    (hs : ∀ i, P (s.route i)) : ∀ i, P (t.route i) := by
  cases h with
  | takeRoute r d q g => exact State.forall_route_setRoute (P := fun _ => P) (fun i _ => hs i) (taken d q g)
  | reroute r e _ h => exact State.forall_route_setRoute (P := fun _ => P) (fun i _ => hs i) (rerouted _ _ h (hs r))
  | emptyRoute r => exact State.forall_route_setRoute (P := fun _ => P) (fun i _ => hs i) empty
  | identify d =>
    show ∀ i, P ((s.forgetNode d).route i)
    unfold State.forgetNode
    dsimp only
    split
    · exact hs
    · exact State.forall_route_setRoute (P := fun _ => P) (fun i _ => hs i) empty
  | reset =>
    intro i
    show P (State.reset.routes[i.val])
    simp only [State.reset, Vector.getElem_replicate, empty]
  | other t h => rw [h]; exact hs
  | completeWalk w =>
    obtain ⟨set, ls, h⟩ := freeEvicted_shape s w.evict
    rw [h]
    exact hs
  | beginWalk =>
    rw [State.beginWalk_eq]
    exact hs
  | _ => exact hs

/-! ### Packet memory -/

/-- Every change keeps packet memory canonical. -/
theorem Change.mem_wf (h : Change o s t) (hs : Memory.wf s.mem) : Memory.wf t.mem := by
  cases h with
  | memory a d be => exact State.writeMem_wf a d be hs
  | other t h => rw [h]; exact hs
  | completeWalk w =>
    obtain ⟨set, ls, h⟩ := freeEvicted_shape s w.evict
    rw [h]
    exact hs
  | beginWalk => rw [State.beginWalk_eq]; exact hs
  | identify d => rw [State.forgetNode_eq]; exact hs
  | _ => exact hs

/-- Settles O51: every act is a chain of changes, and only one kind of change writes memory. -/
theorem memoryStaysCanonical : Obligations.MemoryStaysCanonical := fun _ _ hs h =>
  step_keeps_of_change (P := fun u => Memory.wf u.mem) (fun _ _ h => h) (fun _ _ _ _ hs h => h.mem_wf hs) hs h

/-! ### Capacities -/

/-- What joins a list that does not hold it leaves the list without repetitions. -/
theorem nodup_concat {α : Type} {l : List α} {a : α} (h : l.Nodup) (ha : a ∉ l) : (l ++ [a]).Nodup := by
  rw [List.nodup_append]
  refine ⟨h, List.pairwise_singleton _ a, fun b hb c hc => ?_⟩
  rw [List.mem_singleton] at hc
  rintro rfl
  exact ha (hc ▸ hb)

/-- A list with room for one element more. -/
theorem length_concat_le {α : Type} {l : List α} {a : α} {n : Nat} (h : l.length < n) : (l ++ [a]).length ≤ n := by
  rw [List.length_append]
  exact h

/-- An index is added to an evict set once. -/
theorem nodup_addEvict {es : List LinkIx} (h : es.Nodup) (i : LinkIx) : (addEvict es i).Nodup := by
  unfold addEvict
  split
  next => exact h
  next hi => exact nodup_concat h hi

/-- A list merged into an evict set leaves it without repetitions. -/
theorem nodup_foldl_addEvict {es : List LinkIx} (h : es.Nodup) (is : List LinkIx) : (is.foldl addEvict es).Nodup := by
  induction is generalizing es with
  | nil => exact h
  | cons i is ih => exact ih (nodup_addEvict h i)

/-- A pair that joins the flood cache leaves it within its places. -/
theorem length_insertFlood {fs : List FloodEntry} (h : fs.length ≤ Config.maxFlood) (origin : Node) (seq : Half) :
    (insertFlood fs origin seq).length ≤ Config.maxFlood := by
  have : Config.maxFlood = 64 := rfl
  unfold insertFlood
  split <;> simp only [List.length_append, List.length_drop, List.length_singleton] <;> omega

/-- Aged flood entries are those of a tail of the cache. -/
theorem ageFlood_sublist (limit : Nat) (fs : List FloodEntry) :
    (ageFlood limit fs).Sublist (fs.map fun f => { f with age := f.age + 1 }) := List.dropWhile_sublist _

/-- Every change keeps the lists within their places. -/
theorem Change.withinCapacity (h : Change o s t) (hs : s.withinCapacity) : t.withinCapacity := by
  obtain ⟨hwait, hflood, hout, hset, hbars, hwant, hroute, hevict, hwalk⟩ := hs
  have hroute' := h.forall_route (P := fun e => e.candidates.length ≤ Config.maxCandidates) (Nat.zero_le _)
    (fun _ _ _ => Nat.zero_le _) (fun _ _ h => h.length) hroute
  cases h with
  | other t h => rw [h]; exact ⟨hwait, hflood, hout, hset, hbars, hwant, hroute, hevict, hwalk⟩
  | queue l room =>
    exact ⟨length_concat_le room, hflood, hout, hset, hbars, hwant, hroute, hevict, hwalk⟩
  | waiting ls f sub =>
    exact ⟨Nat.le_trans (Nat.le_of_eq (List.length_map f)) (Nat.le_trans sub.length_le hwait), hflood, hout, hset, hbars, hwant, hroute, hevict, hwalk⟩
  | floodInsert origin seq =>
    exact ⟨hwait, length_insertFlood hflood origin seq, hout, hset, hbars, hwant, hroute, hevict, hwalk⟩
  | floodAge =>
    have hage := (ageFlood_sublist s.settings.floodLifetime s.verdicts.flood).length_le
    rw [List.length_map] at hage
    exact ⟨hwait, Nat.le_trans hage hflood, hout, hset, hbars, hwant, hroute, hevict, hwalk⟩
  | floodClear => exact ⟨hwait, Nat.zero_le _, hout, hset, hbars, hwant, hroute, hevict, hwalk⟩
  | outcome x room =>
    exact ⟨hwait, hflood, length_concat_le room, hset, hbars, hwant, hroute, hevict, hwalk⟩
  | outcomes xs sub => exact ⟨hwait, hflood, Nat.le_trans sub.length_le hout, hset, hbars, hwant, hroute, hevict, hwalk⟩
  | purge set bars subSet subBars =>
    exact ⟨hwait, hflood, hout, Nat.le_trans subSet.length_le hset, Nat.le_trans subBars.length_le hbars, hwant, hroute, hevict, hwalk⟩
  | purgeJoin n new room =>
    exact ⟨hwait, hflood, hout, length_concat_le room, hbars, hwant, hroute, hevict, hwalk⟩
  | barJoin n new room =>
    exact ⟨hwait, hflood, hout, hset, length_concat_le room, hwant, hroute, hevict, hwalk⟩
  | wanted ws sub => exact ⟨hwait, hflood, hout, hset, hbars, Nat.le_trans sub.length_le hwant, hroute, hevict, hwalk⟩
  | wantedMap f => exact ⟨hwait, hflood, hout, hset, hbars, Nat.le_trans (Nat.le_of_eq (List.length_map f)) hwant, hroute, hevict, hwalk⟩
  | wantedJoin d new room =>
    exact ⟨hwait, hflood, hout, hset, hbars, length_concat_le room, hroute, hevict, hwalk⟩
  | loseLink i l => exact ⟨hwait, hflood, hout, hset, hbars, hwant, hroute, nodup_foldl_addEvict hevict [i], hwalk⟩
  | mergeEvict is => exact ⟨hwait, hflood, hout, hset, hbars, hwant, hroute, nodup_foldl_addEvict hevict is, hwalk⟩
  | beginWalk =>
    rcases s.beginWalk_cases with h | ⟨-, -, h⟩ <;> rw [h]
    · exact ⟨hwait, hflood, hout, hset, hbars, hwant, hroute, hevict, hwalk⟩
    · refine ⟨hwait, hflood, hout, hset, hbars, hwant, hroute, List.nodup_nil, fun w hw => ?_⟩
      cases hw
      exact hevict
  | advanceWalk w walk =>
    refine ⟨hwait, hflood, hout, hset, hbars, hwant, hroute, hevict, fun w' hw => ?_⟩
    cases hw
    exact hwalk w walk
  | completeWalk w =>
    have hpurge := (purgeSet_foldl_freeEvicted s w.evict).length_le
    obtain ⟨set, ls, h⟩ := freeEvicted_shape s w.evict
    rw [h] at hpurge ⊢
    exact ⟨hwait, hflood, hout, Nat.le_trans hpurge hset, hbars, hwant, hroute, hevict, fun _ hw => nomatch hw⟩
  | haltWalk => exact ⟨hwait, hflood, hout, hset, hbars, hwant, hroute, hevict, fun _ hw => nomatch hw⟩
  | identify d =>
    rw [State.forgetNode_eq]
    exact ⟨hwait, hflood, hout, hset, hbars, Nat.le_trans (List.length_filter_le _ _) hwant, hroute', hevict, hwalk⟩
  | reset =>
    exact ⟨Nat.zero_le _, Nat.zero_le _, Nat.zero_le _, Nat.zero_le _, Nat.zero_le _, Nat.zero_le _, hroute',
      List.nodup_nil, fun _ hw => nomatch hw⟩
  | _ => exact ⟨hwait, hflood, hout, hset, hbars, hwant, hroute', hevict, hwalk⟩

/-- Settles O52: each list grows only by changes that find room in it, and an evict set takes an index once. -/
theorem listsStayWithinCapacity : Obligations.ListsStayWithinCapacity := fun _ _ hs h =>
  step_keeps_of_change (fun _ _ h => h) (fun _ _ _ _ hs h => h.withinCapacity hs) hs h

end Sys2Proof.Machine
end

section
/-! PROOFS. Every number stays in its range (O53). -/

namespace Sys2Proof.Machine

variable {o s t : State}

/-! ### The flood cache's ages -/

/-- A pair that joins the flood cache with age 0 keeps the bound on the ages and their order. -/
theorem insertFlood_ages {fs : List FloodEntry} (origin : Node) (seq : Half) (hage : ∀ f ∈ fs, f.age ≤ 62)
    (hsorted : fs.Pairwise fun f g => g.age ≤ f.age) :
    (∀ f ∈ insertFlood fs origin seq, f.age ≤ 62) ∧ (insertFlood fs origin seq).Pairwise fun f g => g.age ≤ f.age := by
  have hfront : ((if fs.length < Config.maxFlood then fs else fs.drop 1) : List FloodEntry).Sublist fs := by
    split
    · exact List.Sublist.refl _
    · exact List.drop_sublist 1 fs
  unfold insertFlood
  refine ⟨fun f hf => ?_, List.pairwise_append.2 ⟨hsorted.sublist hfront, List.pairwise_singleton _ _, fun f _ g hg => ?_⟩⟩
  · rcases List.mem_append.1 hf with hf | hf
    · exact hage f (hfront.subset hf)
    · rw [List.mem_singleton.1 hf]; exact Nat.zero_le _
  · rw [List.mem_singleton.1 hg]; exact Nat.zero_le _

/-- Of entries in order of age, those from the first one younger than a limit on are all younger. -/
theorem age_lt_of_mem_dropWhile {fs : List FloodEntry} {limit : Nat} (hsorted : fs.Pairwise fun f g => g.age ≤ f.age)
    {f : FloodEntry} (hf : f ∈ fs.dropWhile fun f => decide (limit ≤ f.age)) : f.age < limit := by
  induction fs with
  | nil => cases hf
  | cons g fs ih =>
    obtain ⟨hg, hfs⟩ := List.pairwise_cons.1 hsorted
    rw [List.dropWhile_cons] at hf
    split at hf
    next => exact ih hfs hf
    next hyoung =>
      have hyoung : g.age < limit := by simpa using hyoung
      rcases List.mem_cons.1 hf with rfl | hf
      · exact hyoung
      · exact Nat.lt_of_le_of_lt (hg f hf) hyoung

/-- Aging keeps the order of the ages, and what stays is younger than the lifetime. -/
theorem ageFlood_ages {fs : List FloodEntry} {limit : Nat} (hlimit : limit ≤ 63)
    (hsorted : fs.Pairwise fun f g => g.age ≤ f.age) :
    (∀ f ∈ ageFlood limit fs, f.age ≤ 62) ∧ (ageFlood limit fs).Pairwise fun f g => g.age ≤ f.age := by
  have hmap : (fs.map fun f => { f with age := f.age + 1 }).Pairwise fun f g => g.age ≤ f.age :=
    List.pairwise_map.2 (hsorted.imp fun h => Nat.succ_le_succ h)
  refine ⟨fun f hf => ?_, hmap.sublist (ageFlood_sublist limit fs)⟩
  have := age_lt_of_mem_dropWhile hmap hf
  omega

/-! ### Other numbers -/

/-- An entry newly taken has its numbers in range. -/
theorem RouteEntry.taken_inRange (d : Node) (q : Option Half) (g : Bool) : (RouteEntry.taken d q g).inRange :=
  ⟨Nat.zero_le _, fun _ h => (nomatch h), fun _ h => (nomatch h), fun _ h => (nomatch h), fun _ h => (nomatch h)⟩

/-- The FREE values are in range. -/
theorem Link.free_inRange : Link.free.inRange := by
  refine ⟨?_, ?_, ?_, ?_, ?_, ⟨?_, ?_⟩, ⟨?_, ?_⟩, ?_⟩ <;> decide

/-- The defaults are in range. -/
theorem Settings.default_inRange : Settings.default.inRange := by
  refine ⟨⟨?_, ?_⟩, ⟨?_, ?_⟩, ⟨?_, ?_⟩, ⟨?_, ?_⟩, ⟨?_, ?_⟩, ⟨?_, ?_⟩, ⟨?_, ?_⟩, ⟨?_, ?_⟩, ⟨?_, ?_⟩, ⟨?_, ?_⟩, ?_, ?_, ?_,
    ?_, ?_⟩ <;> decide

/-- A PIN ROUTE that is not refused has a cost and a port in range (R113). -/
theorem State.pin_of_not_refused {s : State} (h : s.pinRefused = false) :
    loHalf s.arg2 ≠ 0xFFFF#16 ∧ s.arg2.toNat / 0x1000000 ≤ 2 := by
  have hport : numField s.arg2 24 8 = s.arg2.toNat / 0x1000000 := by
    rw [numField_eq]
    exact Nat.mod_eq_of_lt (Nat.div_lt_of_lt_mul s.arg2.isLt)
  simp only [State.pinRefused, Bool.or_eq_false_iff, decide_eq_false_iff_not, beq_eq_false_iff_ne] at h
  obtain ⟨⟨-, hnum⟩, hcost⟩ := h
  exact ⟨hcost, hport ▸ Nat.le_of_not_lt hnum⟩

/-- The descriptors after one is written. -/
theorem State.putRegion_regions_cases {s : State} {i j : Fin 4} {r q : Option Region}
    (h : (s.putRegion i r).bus.regions[j.val] = q) :
    (j = i ∧ q = r) ∨ (j ≠ i ∧ s.bus.regions[j.val] = q) := by
  have hset : (s.bus.regions.set i.val r)[j.val] = q := h
  by_cases hj : j = i
  · subst hj
    rw [Vector.getElem_set_self] at hset
    exact .inl ⟨rfl, hset.symm⟩
  · rw [Vector.getElem_set_ne _ _ fun e => hj (Fin.ext e.symm)] at hset
    exact .inr ⟨hj, hset⟩

/-- Every change keeps the links' numbers in range, when the frames that wait carry signal levels in range. -/
theorem Change.links_inRange (h : Change o s t) (signals : o.signalsInRange) (settings : s.settings.inRange)
    (hs : ∀ i, (s.link i).inRange) : ∀ i, (t.link i).inRange := by
  have set {i : LinkIx} {l : Link} (hl : l.inRange) : ∀ j, ((s.setLink i l).link j).inRange :=
    State.forall_link_setLink (P := fun _ => Link.inRange) (fun j _ => hs j) hl
  cases h with
  | relink i l was is h => exact set (h.range signals settings (hs i))
  | loseLink i l was is h => exact set (h.range signals settings (hs i))
  | newLink i l was is node new range => exact set (range signals)
  | completeWalk w =>
    intro i
    show ((w.evict.foldl State.freeEvicted s).link i).inRange
    rw [link_foldl_freeEvicted]
    split
    · exact Link.free_inRange
    · exact hs i
  | reset =>
    intro i
    show (State.reset.links[i.val]).inRange
    simp only [State.reset, Vector.getElem_replicate, Link.free_inRange]
  | other t h => rw [h]; exact hs
  | beginWalk => rw [State.beginWalk_eq]; exact hs
  | identify d => rw [State.forgetNode_eq]; exact hs
  | _ => exact hs

/-- Every change keeps the numbers in range. -/
theorem Change.inRange (h : Change o s t) (ho : o.inRange) (hs : s.inRange) : t.inRange := by
  have signals : o.signalsInRange := by
    obtain ⟨-, -, -, -, -, -, -, -, -, -, -, -, -, h⟩ := ho
    exact h
  obtain ⟨hset, hlink, hwant, hroute, hage, hsorted, hout, hregion, hcounter, hcause, hsettle, hlearn, hpin, hsignal⟩ := hs
  have hlink' := h.links_inRange signals hset hlink
  have hroute' := h.forall_route (P := RouteEntry.inRange) (RouteEntry.taken_inRange 0 none false)
    RouteEntry.taken_inRange (fun _ _ h => h.range hpin) hroute
  cases h with
  | other t h =>
    rw [h]
    exact ⟨hset, hlink, hwant, hroute, hage, hsorted, hout, hregion, hcounter, hcause, hsettle, hlearn, hpin, hsignal⟩
  | count c =>
    exact ⟨hset, hlink, hwant, hroute, hage, hsorted, hout, hregion, fun d => s.counter_count_le c d (hcounter d), hcause,
      hsettle, hlearn, hpin, hsignal⟩
  | clearCounters =>
    refine ⟨hset, hlink, hwant, hroute, hage, hsorted, hout, hregion, fun c => ?_, hcause, hsettle, hlearn, hpin, hsignal⟩
    simp [State.counter]
  | queue l room signal =>
    refine ⟨hset, hlink, hwant, hroute, hage, hsorted, hout, hregion, hcounter, hcause, hsettle, hlearn, hpin, fun l' hl => ?_⟩
    rcases List.mem_append.1 hl with hl | hl
    · exact hsignal l' hl
    · rw [List.mem_singleton.1 hl]; exact signal
  | waiting ls f sub signal =>
    refine ⟨hset, hlink, hwant, hroute, hage, hsorted, hout, hregion, hcounter, hcause, hsettle, hlearn, hpin, fun l' hl' => ?_⟩
    obtain ⟨l, hl, rfl⟩ := List.mem_map.1 hl'
    rw [signal]
    exact hsignal l (sub.subset hl)
  | floodInsert origin seq =>
    obtain ⟨hage', hsorted'⟩ := insertFlood_ages origin seq hage hsorted
    exact ⟨hset, hlink, hwant, hroute, hage', hsorted', hout, hregion, hcounter, hcause, hsettle, hlearn, hpin, hsignal⟩
  | floodAge =>
    obtain ⟨-, -, -, -, -, ⟨-, hlimit⟩, -⟩ := id hset
    obtain ⟨hage', hsorted'⟩ := ageFlood_ages hlimit hsorted
    exact ⟨hset, hlink, hwant, hroute, hage', hsorted', hout, hregion, hcounter, hcause, hsettle, hlearn, hpin, hsignal⟩
  | floodClear =>
    exact ⟨hset, hlink, hwant, hroute, fun _ h => (nomatch h), List.Pairwise.nil, hout, hregion, hcounter, hcause, hsettle,
      hlearn, hpin, hsignal⟩
  | outcome x room attempts =>
    refine ⟨hset, hlink, hwant, hroute, hage, hsorted, fun y hy => ?_, hregion, hcounter, hcause, hsettle, hlearn, hpin, hsignal⟩
    rcases List.mem_append.1 hy with hy | hy
    · exact hout y hy
    · rw [List.mem_singleton.1 hy]; exact attempts
  | outcomes xs sub =>
    exact ⟨hset, hlink, hwant, hroute, hage, hsorted, fun y hy => hout y (sub.subset hy), hregion, hcounter, hcause, hsettle,
      hlearn, hpin, hsignal⟩
  | wanted ws sub =>
    exact ⟨hset, hlink, fun w hw => hwant w (sub.subset hw), hroute, hage, hsorted, hout, hregion, hcounter, hcause, hsettle,
      hlearn, hpin, hsignal⟩
  | wantedMap f dest range =>
    refine ⟨hset, hlink, fun w' hw' => ?_, hroute, hage, hsorted, hout, hregion, hcounter, hcause, hsettle, hlearn, hpin, hsignal⟩
    obtain ⟨w, hw, rfl⟩ := List.mem_map.1 hw'
    exact range w hset (hwant w hw)
  | wantedJoin d =>
    refine ⟨hset, hlink, fun w hw => ?_, hroute, hage, hsorted, hout, hregion, hcounter, hcause, hsettle, hlearn, hpin, hsignal⟩
    rcases List.mem_append.1 hw with hw | hw
    · exact hwant w hw
    · rw [List.mem_singleton.1 hw]
      exact ⟨Nat.zero_le _, fun _ => Nat.zero_lt_succ _, Nat.le_refl _, (by decide : 1 ≤ 255)⟩
  | beginWalk =>
    rw [State.beginWalk_eq]
    exact ⟨hset, hlink, hwant, hroute, hage, hsorted, hout, hregion, hcounter, hcause, hsettle, hlearn, hpin, hsignal⟩
  | completeWalk w =>
    obtain ⟨set, ls, h⟩ := freeEvicted_shape s w.evict
    rw [h] at hlink' ⊢
    exact ⟨hset, hlink', hwant, hroute, hage, hsorted, hout, hregion, hcounter, hcause, hsettle, hlearn, hpin, hsignal⟩
  | settings c h =>
    exact ⟨h hset, hlink, hwant, hroute, hage, hsorted, hout, hregion, hcounter, hcause, hsettle, hlearn, hpin, hsignal⟩
  | engine st n runs range =>
    obtain ⟨hn, hlearn'⟩ := range hset hlearn
    exact ⟨hset, hlink, hwant, hroute, hage, hsorted, hout, hregion, hcounter, hcause, hn, hlearn', hpin, hsignal⟩
  | stop =>
    exact ⟨hset, hlink, hwant, hroute, hage, hsorted, hout, hregion, hcounter, hcause, Nat.zero_le _,
      fun h => (nomatch h), hpin, hsignal⟩
  | idle c h =>
    exact ⟨hset, hlink, hwant, hroute, hage, hsorted, hout, hregion, hcounter, hcause, hsettle, hlearn,
      fun hrun => absurd hrun (Bool.eq_false_iff.1 h), hsignal⟩
  | run h =>
    exact ⟨hset, hlink, hwant, hroute, hage, hsorted, hout, hregion, hcounter, hcause, hsettle, hlearn,
      fun _ hcode => State.pin_of_not_refused (h hcode), hsignal⟩
  | identify d =>
    rw [State.forgetNode_eq]
    exact ⟨hset, hlink, fun w hw => hwant w (List.mem_filter.1 hw).1, hroute', hage, hsorted, hout, hregion, hcounter,
      hcause, hsettle, hlearn, hpin, hsignal⟩
  | dropRegion i =>
    refine ⟨hset, hlink, hwant, hroute, hage, hsorted, hout, fun j r hr => ?_, hcounter, hcause, hsettle, hlearn, hpin, hsignal⟩
    rcases State.putRegion_regions_cases hr with ⟨-, h⟩ | ⟨-, h⟩
    · cases h
    · exact hregion j r h
  | region i r count =>
    refine ⟨hset, hlink, hwant, hroute, hage, hsorted, hout, fun j q hq => ?_, hcounter, hcause, hsettle, hlearn, hpin, hsignal⟩
    rcases State.putRegion_regions_cases hq with ⟨-, h⟩ | ⟨-, h⟩
    · cases h; exact count
    · exact hregion j q h
  | reset p d q n c count cmd idle =>
    refine ⟨Settings.default_inRange, hlink', fun _ h => (nomatch h), hroute', fun _ h => (nomatch h), List.Pairwise.nil,
      fun _ h => (nomatch h), fun j r hr => ?_, fun c => ?_, count, Nat.zero_le _, fun h => (nomatch h),
      fun hrun => absurd hrun (Bool.eq_false_iff.1 idle), fun _ h => (nomatch h)⟩
    · simp [BusTap.reset] at hr
    · show State.reset.counters[c.ix.val] ≤ 65535
      simp [State.reset]
  | _ =>
    exact ⟨hset, hlink', hwant, hroute', hage, hsorted, hout, hregion, hcounter, hcause, hsettle, hlearn, hpin, hsignal⟩

/-- Settles O53: every number is written by changes that keep its range. -/
theorem numbersStayInRange : Obligations.NumbersStayInRange := fun _ _ hs h =>
  step_keeps_of_change (fun _ _ h => h) (fun _ _ _ ho hs h => h.inRange ho hs) hs h

end Sys2Proof.Machine
end

section
/-! PROOFS. No list or table holds a thing twice, and the slot regions fit (O54). -/

namespace Sys2Proof.Machine

variable {o s t : State}

/-! ### Links -/

/-- One non-FREE entry at most for a link (R65). -/
def State.linksUnique (s : State) : Prop :=
  ∀ i j, (s.link i).state ≠ .free → (s.link j).state ≠ .free → s.linkName i = s.linkName j → i = j

/-- No non-FREE entry for node 0 or 65535 (R26). -/
def State.linksNamed (s : State) : Prop := ∀ i, (s.link i).state ≠ .free → (s.link i).node ≠ 0 ∧ (s.link i).node ≠ 0xFFFF#16

/-- Where no entry is taken and no name changes, the links stay unique and named. -/
theorem State.linksUnique_of_kept (hu : s.linksUnique) (hn : s.linksNamed)
    (h : ∀ i, (t.link i).state ≠ .free → (s.link i).state ≠ .free ∧ t.linkName i = s.linkName i) :
    t.linksUnique ∧ t.linksNamed := by
  refine ⟨fun i j hi hj hij => ?_, fun i hi => ?_⟩
  · obtain ⟨hi, hni⟩ := h i hi
    obtain ⟨hj, hnj⟩ := h j hj
    exact hu i j hi hj (by rw [← hni, ← hnj, hij])
  · obtain ⟨hi, hni⟩ := h i hi
    have hnode : (t.link i).node = (s.link i).node := congrArg LinkName.node hni
    rw [hnode]
    exact hn i hi

/-- An estimated link is not FREE. -/
theorem LinkState.ne_free_of_estimated {l : LinkState} (h : l.estimated = true) : l ≠ .free := by
  rintro rfl
  cases h

/-- A link that waits for its walk is not FREE. -/
theorem LinkState.ne_free_of_dying {l : LinkState} (h : l.dying = true) : l ≠ .free := by
  rintro rfl
  cases h

/-- An update that keeps the name of an entry in use. -/
theorem State.linkName_setLink {i : LinkIx} {l : Link} (was : (s.link i).state ≠ .free) (h : o.Relinked s (s.link i) l)
    (j : LinkIx) (hj : ((s.setLink i l).link j).state ≠ .free) :
    (s.link j).state ≠ .free ∧ (s.setLink i l).linkName j = s.linkName j := by
  by_cases hij : j = i
  · subst hij
    refine ⟨was, ?_⟩
    simp only [State.linkName, State.link_setLink_same, h.node, h.port]
  · rw [State.link_setLink_other s l hij] at hj
    refine ⟨hj, ?_⟩
    simp only [State.linkName, State.link_setLink_other s l hij]

/-- Every change keeps the links unique and named. -/
theorem Change.linksUnique (h : Change o s t) (hu : s.linksUnique) (hn : s.linksNamed) : t.linksUnique ∧ t.linksNamed := by
  cases h with
  | relink i l was is h =>
    exact State.linksUnique_of_kept hu hn (State.linkName_setLink (LinkState.ne_free_of_estimated was) h)
  | loseLink i l was is h =>
    exact State.linksUnique_of_kept (t := (s.setLink i l).mergeEvict [i]) hu hn
      (State.linkName_setLink (LinkState.ne_free_of_estimated was) h)
  | newLink i l was is node new range =>
    have hother (j : LinkIx) (hj : j ≠ i) : (s.setLink i l).link j = s.link j := State.link_setLink_other s l hj
    have hnew (j : LinkIx) (hj : (s.link j).state ≠ .free) : ¬(s.linkName j = { node := l.node, port := l.port }) :=
      fun h => new j hj ⟨congrArg LinkName.node h, congrArg LinkName.port h⟩
    have hname (j : LinkIx) (hj : j ≠ i) : (s.setLink i l).linkName j = s.linkName j := by
      simp only [State.linkName, hother j hj]
    have hname' : (s.setLink i l).linkName i = { node := l.node, port := l.port } := by
      simp only [State.linkName, State.link_setLink_same]
    refine ⟨fun j k hj hk hjk => ?_, ?_⟩
    · by_cases hji : j = i <;> by_cases hki : k = i
      · rw [hji, hki]
      · subst hji
        rw [hother k hki] at hk
        rw [hname', hname k hki] at hjk
        exact absurd hjk.symm (hnew k hk)
      · subst hki
        rw [hother j hji] at hj
        rw [hname', hname j hji] at hjk
        exact absurd hjk (hnew j hj)
      · rw [hother j hji] at hj
        rw [hother k hki] at hk
        rw [hname j hji, hname k hki] at hjk
        exact hu j k hj hk hjk
    · refine State.forall_link_setLink (P := fun _ l => l.state ≠ .free → l.node ≠ 0 ∧ l.node ≠ 0xFFFF#16)
        (fun j _ => hn j) fun _ => ?_
      simpa [notANode] using node
  | completeWalk w =>
    refine State.linksUnique_of_kept hu hn fun i hi => ?_
    have hlink : ((w.evict.foldl State.freeEvicted s).link i).state ≠ .free := hi
    show (s.link i).state ≠ .free ∧ (w.evict.foldl State.freeEvicted s).linkName i = s.linkName i
    rw [link_foldl_freeEvicted] at hlink
    split at hlink
    next => exact absurd rfl hlink
    next hout => exact ⟨hlink, by simp only [State.linkName, link_foldl_freeEvicted, if_neg hout]⟩
  | reset =>
    have hfree (i : LinkIx) : (State.reset.links[i.val]).state = .free := by
      simp only [State.reset, Vector.getElem_replicate]
      rfl
    exact ⟨fun i _ hi => absurd (hfree i) hi, fun i hi => absurd (hfree i) hi⟩
  | other t h => rw [h]; exact ⟨hu, hn⟩
  | beginWalk => rw [State.beginWalk_eq]; exact ⟨hu, hn⟩
  | identify d => rw [State.forgetNode_eq]; exact ⟨hu, hn⟩
  | _ => exact ⟨hu, hn⟩

/-! ### Regions -/

/-- The slots of four descriptors. -/
theorem totalSlots_eq (v : Vector (Option Region) 4) :
    totalSlots v.toList = regionCount v[0] + regionCount v[1] + regionCount v[2] + regionCount v[3] := by
  obtain ⟨⟨l⟩, h⟩ := v
  match l, h with
  | [a, b, c, d], _ => simp [totalSlots, Nat.add_assoc]

/-- A descriptor made absent takes no slots. -/
theorem totalSlots_set_none_le (v : Vector (Option Region) 4) (i : Fin 4) :
    totalSlots (v.set i.val none).toList ≤ totalSlots v.toList := by
  have hcount (j : Fin 4) : regionCount (v.set i.val none)[j.val] ≤ regionCount v[j.val] := by
    rw [Vector.getElem_set]
    split
    · exact Nat.zero_le _
    · exact Nat.le_refl _
  rw [totalSlots_eq, totalSlots_eq]
  exact Nat.add_le_add (Nat.add_le_add (Nat.add_le_add (hcount 0) (hcount 1)) (hcount 2)) (hcount 3)

/-- Two ranges that share no byte stand one after the other. -/
theorem rangesMeet_false {a aLimit b bLimit : Nat} (h : rangesMeet a aLimit b bLimit = false) : bLimit ≤ a ∨ aLimit ≤ b := by
  simp only [rangesMeet, Bool.and_eq_false_iff, decide_eq_false_iff_not, Nat.not_lt] at h
  exact h

/-- An absent descriptor leaves the regions that fit. -/
theorem State.regionsFit_dropRegion (h : s.regionsFit) (i : Fin 4) : (s.putRegion i none).regionsFit := by
  obtain ⟨hone, htwo, htotal⟩ := h
  have hkept {j : Fin 4} {r : Region} (hr : (s.putRegion i none).bus.regions[j.val] = some r) :
      s.bus.regions[j.val] = some r := by
    rcases State.putRegion_regions_cases hr with ⟨-, h⟩ | ⟨-, h⟩
    · cases h
    · exact h
  exact ⟨fun j r hr => hone j r (hkept hr), fun j k q r hjk hq hr => htwo j k q r hjk (hkept hq) (hkept hr),
    Nat.le_trans (totalSlots_set_none_le s.bus.regions i) htotal⟩

/-- A descriptor that is not refused fits with those present (R4). -/
theorem State.regionsFit_putRegion (h : s.regionsFit) {i : Fin 4} {r : Region} (count : 1 ≤ r.count ∧ r.count ≤ 256)
    (fits : s.regionRefused i r = false) : (s.putRegion i (some r)).regionsFit := by
  obtain ⟨hone, htwo, -⟩ := h
  simp only [State.regionRefused, Bool.or_eq_false_iff, decide_eq_false_iff_not, Nat.not_lt, bne_eq_false_iff_eq] at fits
  obtain ⟨⟨⟨⟨halign, hlimit⟩, hmeets⟩, hstrip⟩, htotal⟩ := fits
  have hstrip := rangesMeet_false hstrip
  have hapart (j : Fin 4) (q : Region) (hj : j ≠ i) (hq : s.bus.regions[j.val] = some q) :
      q.limit ≤ r.base.toNat ∨ r.limit ≤ q.base.toNat := by
    have := List.any_eq_false.1 hmeets j (List.mem_finRange j)
    simp only [hq, Bool.and_eq_true, bne_iff_ne, ne_eq, hj, not_false_eq_true, true_and, Bool.not_eq_true] at this
    exact rangesMeet_false this
  refine ⟨fun j q hq => ?_, fun j k q q' hjk hq hq' => ?_, htotal⟩
  · rcases State.putRegion_regions_cases hq with ⟨-, h⟩ | ⟨-, h⟩
    · cases h
      refine ⟨count.1, count.2, halign, hlimit, ?_⟩
      show r.limit ≤ s.bus.position.val * 0x200000 + 0x1FFC00 ∨ s.bus.position.val * 0x200000 + 0x200000 ≤ r.base.toNat
      unfold stripBase at hstrip
      omega
    · exact hone j q h
  · rcases State.putRegion_regions_cases hq with ⟨hj, h⟩ | ⟨hj, h⟩ <;>
      rcases State.putRegion_regions_cases hq' with ⟨hk, h'⟩ | ⟨hk, h'⟩
    · exact absurd (hj.trans hk.symm) hjk
    · cases h
      exact (hapart k q' hk h').symm
    · cases h'
      exact hapart j q hj h
    · exact htwo j k q q' hjk h h'

/-! ### Lists -/

/-- A pair that the flood cache does not hold joins it. -/
theorem nodup_insertFlood {origin : Node} {seq : Half} (new : s.floodHolds origin seq = false)
    (h : (s.verdicts.flood.map fun f => (f.origin, f.seq)).Nodup) :
    ((insertFlood s.verdicts.flood origin seq).map fun f => (f.origin, f.seq)).Nodup := by
  have hfront : ((if s.verdicts.flood.length < Config.maxFlood then s.verdicts.flood else s.verdicts.flood.drop 1) :
      List FloodEntry).Sublist s.verdicts.flood := by
    split
    · exact List.Sublist.refl _
    · exact List.drop_sublist 1 _
  unfold insertFlood
  rw [List.map_append]
  refine nodup_concat (h.sublist (hfront.map _)) fun hmem => ?_
  obtain ⟨f, hf, hpair⟩ := List.mem_map.1 hmem
  have := List.any_eq_false.1 new f (hfront.subset hf)
  simp only [Prod.mk.injEq] at hpair
  simp [hpair] at this

/-- Every change keeps the lists and tables without repetitions. -/
theorem Change.noDuplicates (h : Change o s t) (hs : s.noDuplicates) : t.noDuplicates := by
  obtain ⟨hlinks, hnamed, hcands, hwant, hflood, hset, hbars, hroles, hregions⟩ := hs
  obtain ⟨hlinks', hnamed'⟩ := h.linksUnique hlinks hnamed
  have hcands' := h.forall_route (P := fun e => (e.candidates.map fun c => c.link).Nodup) List.nodup_nil
    (fun _ _ _ => List.nodup_nil) (fun _ _ h => h.nodup) hcands
  cases h with
  | other t h => rw [h]; exact ⟨hlinks, hnamed, hcands, hwant, hflood, hset, hbars, hroles, hregions⟩
  | floodInsert origin seq new =>
    exact ⟨hlinks, hnamed, hcands, hwant, nodup_insertFlood new hflood, hset, hbars, hroles, hregions⟩
  | floodAge =>
    have hage := (ageFlood_sublist s.settings.floodLifetime s.verdicts.flood).map fun f => (f.origin, f.seq)
    rw [List.map_map] at hage
    exact ⟨hlinks, hnamed, hcands, hwant, hflood.sublist hage, hset, hbars, hroles, hregions⟩
  | floodClear => exact ⟨hlinks, hnamed, hcands, hwant, List.nodup_nil, hset, hbars, hroles, hregions⟩
  | purge set bars subSet subBars =>
    exact ⟨hlinks, hnamed, hcands, hwant, hflood, hset.sublist subSet, hbars.sublist subBars, hroles, hregions⟩
  | purgeJoin n new =>
    exact ⟨hlinks, hnamed, hcands, hwant, hflood, nodup_concat hset new, hbars, hroles, hregions⟩
  | barJoin n new =>
    exact ⟨hlinks, hnamed, hcands, hwant, hflood, hset, nodup_concat hbars new, hroles, hregions⟩
  | wanted ws sub => exact ⟨hlinks, hnamed, hcands, hwant.sublist (sub.map _), hflood, hset, hbars, hroles, hregions⟩
  | wantedMap f dest =>
    refine ⟨hlinks, hnamed, hcands, ?_, hflood, hset, hbars, hroles, hregions⟩
    show ((s.wanted.map f).map fun w => w.dest).Nodup
    rw [List.map_map, show ((fun w : WantedEntry => w.dest) ∘ f) = fun w : WantedEntry => w.dest from funext dest]
    exact hwant
  | wantedJoin d new =>
    refine ⟨hlinks, hnamed, hcands, ?_, hflood, hset, hbars, hroles, hregions⟩
    refine List.map_append ▸ nodup_concat hwant fun hmem => ?_
    obtain ⟨w, hw, hdest⟩ := List.mem_map.1 hmem
    have := List.any_eq_false.1 new w hw
    exact this (by simpa using hdest)
  | beginWalk =>
    rw [State.beginWalk_eq]
    exact ⟨hlinks, hnamed, hcands, hwant, hflood, hset, hbars, hroles, hregions⟩
  | completeWalk w =>
    have hpurge := purgeSet_foldl_freeEvicted s w.evict
    obtain ⟨set, ls, h⟩ := freeEvicted_shape s w.evict
    rw [h] at hlinks' hnamed' hpurge ⊢
    exact ⟨hlinks', hnamed', hcands, hwant, hflood, hset.sublist hpurge, hbars, hroles, hregions⟩
  | identify d =>
    rw [State.forgetNode_eq]
    exact ⟨hlinks, hnamed, hcands', hwant.sublist (List.filter_sublist.map _), hflood, hset, hbars, hroles, hregions⟩
  | roles rs h => exact ⟨hlinks, hnamed, hcands, hwant, hflood, hset, hbars, h, hregions⟩
  | dropRegion i =>
    exact ⟨hlinks, hnamed, hcands, hwant, hflood, hset, hbars, hroles, State.regionsFit_dropRegion hregions i⟩
  | region i r count fits =>
    exact ⟨hlinks, hnamed, hcands, hwant, hflood, hset, hbars, hroles, State.regionsFit_putRegion hregions count fits⟩
  | reset p =>
    have hnone (j : Fin 4) : (BusTap.reset p).regions[j.val] = none := by simp [BusTap.reset]
    have hrole (i : Initiator) : (BusTap.reset p).roles[i.val] = .ignored := by simp [BusTap.reset]
    refine ⟨hlinks', hnamed', hcands', List.nodup_nil, List.nodup_nil, List.nodup_nil, List.nodup_nil,
      fun i _ _ hi => ?_, fun j r hr => ?_, fun j _ q _ _ hq => ?_, ?_⟩
    · exact nomatch (hrole i).symm.trans hi
    · exact nomatch (hnone j).symm.trans hr
    · exact nomatch (hnone j).symm.trans hq
    · show totalSlots (BusTap.reset p).regions.toList ≤ 512
      rw [totalSlots_eq]
      simp [BusTap.reset, regionCount]
  | _ => exact ⟨hlinks', hnamed', hcands', hwant, hflood, hset, hbars, hroles, hregions⟩

/-- Settles O54: what joins a list or table is not in it yet. -/
theorem tablesHoldNoDuplicates : Obligations.TablesHoldNoDuplicates := fun _ _ hs h =>
  step_keeps_of_change (fun _ _ h => h) (fun _ _ _ _ hs h => h.noDuplicates hs) hs h

end Sys2Proof.Machine
end

section
/-! PROOFS. No route entry names a FREE link (O56), and the destinations of the route table stay unique (O57, but for its clause about
TRANSPARENT). -/

namespace Sys2Proof.Machine

variable {o s t : State}

/-! ### Route entries and the links they name -/

/-- The EMPTY entry names no link. -/
theorem RouteEntry.not_empty_names (i : LinkIx) : ¬RouteEntry.empty.names i := by
  rintro (⟨c, h, -⟩ | ⟨c, h, -⟩ | ⟨c, h, -⟩) <;> cases h

/-- An entry newly taken names no link. -/
theorem RouteEntry.not_taken_names (d : Node) (q : Option Half) (g : Bool) (i : LinkIx) :
    ¬(RouteEntry.taken d q g).names i := by
  rintro (⟨c, h, -⟩ | ⟨c, h, -⟩ | ⟨c, h, -⟩) <;> cases h

/-- An estimated link does not wait for a walk. -/
theorem LinkState.not_dying_of_estimated {l : LinkState} (h : l.estimated = true) : l.dying ≠ true := by
  cases l <;> simp_all [LinkState.estimated, LinkState.dying]

/-- A node's entry becomes EMPTY, and the other entries stay (R97). -/
theorem State.route_forgetNode_cases (s : State) (d : Node) (r : RouteIx) :
    (s.forgetNode d).route r = s.route r ∨ (s.forgetNode d).route r = RouteEntry.empty := by
  unfold State.forgetNode
  dsimp only
  split
  · exact .inl rfl
  next i _ =>
    by_cases h : r = i
    · subst h
      exact .inr (State.route_setRoute_same _ _ _)
    · exact .inl (State.route_setRoute_other _ _ h)

/-- Where entries differ, they are EMPTY at their reset values or in use, and name no link that is not estimated anew. -/
theorem State.routesNameLinks_of_routes (hs : s.routesNameLinks) (links : t.links = s.links) (walker : t.walker = s.walker)
    (engine : t.engine = s.engine) (empty : ∀ r, (t.route r).state = .empty → t.route r = RouteEntry.empty)
    (names : ∀ r i, (t.route r).names i → (s.route r).names i ∨ (s.link i).state.estimated = true) :
    t.routesNameLinks := by
  obtain ⟨hfree, -, hevict, hwalk, hstop⟩ := hs
  have hlink (i : LinkIx) : t.link i = s.link i := by simp only [State.link, links]
  refine ⟨fun r i hi => ?_, empty, fun i hi => ?_, fun w hw => ?_, fun ht => ?_⟩
  · rw [hlink]
    rcases names r i hi with h | h
    · exact hfree r i h
    · exact LinkState.ne_free_of_estimated h
  · rw [hlink]
    exact hevict i (walker ▸ hi)
  · rw [walker] at hw
    obtain ⟨hdying, hvisited⟩ := hwalk w hw
    refine ⟨fun i hi => by rw [hlink, walker]; exact hdying i hi, fun r i hr hi => ?_⟩
    rcases names r i hi with h | h
    · exact hvisited r i hr h
    · exact fun he => LinkState.not_dying_of_estimated h (hdying i he).1
  · rw [walker]
    exact hstop (engine ▸ ht)

/-- An update of a link that waits for no walk. -/
theorem State.routesNameLinks_setLink (hs : s.routesNameLinks) {i : LinkIx} {l : Link}
    (was : (s.link i).state.dying ≠ true) (is : l.state ≠ .free) : (s.setLink i l).routesNameLinks := by
  obtain ⟨hfree, hempty, hevict, hwalk, hstop⟩ := hs
  have hdying (j : LinkIx) (hj : (s.link j).state.dying = true) : ((s.setLink i l).link j).state.dying = true := by
    have hne : j ≠ i := fun h => was (h ▸ hj)
    rw [State.link_setLink_other s l hne]
    exact hj
  refine ⟨fun r j hj => ?_, hempty, fun j hj => hdying j (hevict j hj), fun w hw => ?_, hstop⟩
  · exact State.forall_link_setLink (P := fun j l => (s.route r).names j → l.state ≠ .free) (fun j _ => hfree r j)
      (fun _ => is) j hj
  · obtain ⟨hw, hvisited⟩ := hwalk w hw
    refine ⟨fun j hj => ?_, hvisited⟩
    obtain ⟨hj, hout⟩ := hw j hj
    exact ⟨hdying j hj, hout⟩

/-- Links that wait for a walk, and that the walk in progress does not evict, join the evict set. -/
theorem State.routesNameLinks_mergeEvict (hs : s.routesNameLinks) {is : List LinkIx}
    (dying : ∀ i ∈ is, (s.link i).state.dying = true) (other : ∀ w ∈ s.walker.walk, ∀ i ∈ is, i ∉ w.evict) :
    (s.mergeEvict is).routesNameLinks := by
  obtain ⟨hfree, hempty, hevict, hwalk, hstop⟩ := hs
  refine ⟨hfree, hempty, fun i hi => ?_, fun w hw => ?_, hstop⟩
  · rcases (mem_foldl_addEvict is _ i).1 hi with h | h
    · exact hevict i h
    · exact dying i h
  · obtain ⟨hdying, hvisited⟩ := hwalk w hw
    refine ⟨fun i hi => ⟨(hdying i hi).1, fun h => ?_⟩, hvisited⟩
    rcases (mem_foldl_addEvict is _ i).1 h with h | h
    · exact (hdying i hi).2 h
    · exact other w hw i h hi

/-- The entry just visited names no link of the walk. -/
theorem State.visited_names (hs : s.routesNameLinks) {w : Walk} (walk : s.walker.walk = some w)
    (visited : (s.route w.next).state = .empty ∨
      ∀ i, (s.route w.next).names i → i ∉ w.evict ∨ (s.link i).state = .live)
    (r : RouteIx) (i : LinkIx) (hr : r.val < w.next.val + 1) (hi : (s.route r).names i) : i ∉ w.evict := by
  obtain ⟨-, hempty, -, hwalk, -⟩ := hs
  obtain ⟨hdying, hvisited⟩ := hwalk w walk
  rcases Nat.lt_succ_iff_lt_or_eq.1 hr with h | h
  · exact hvisited r i h hi
  · obtain rfl : r = w.next := Fin.ext h
    rcases visited with hv | hv
    · rw [hempty _ hv] at hi
      exact absurd hi (RouteEntry.not_empty_names i)
    · rcases hv i hi with h | h
      · exact h
      · intro he
        have := (hdying i he).1
        rw [h] at this
        cases this

/-- Every change keeps it that no route entry names a FREE link. -/
theorem Change.routesNameLinks (h : Change o s t) (hs : s.routesNameLinks) : t.routesNameLinks := by
  have ⟨hfree, hempty, hevict, hwalk, hstop⟩ := hs
  have notEvicted {i : LinkIx} (hi : (s.link i).state.estimated = true) : ∀ w ∈ s.walker.walk, ∀ j ∈ [i], j ∉ w.evict := by
    rintro w hw j hj he
    rw [List.mem_singleton.1 hj] at he
    exact LinkState.not_dying_of_estimated hi ((hwalk w hw).1 i he).1
  cases h with
  | other t h => rw [h]; exact hs
  | relink i l was is =>
    exact State.routesNameLinks_setLink hs (LinkState.not_dying_of_estimated was) (LinkState.ne_free_of_estimated is)
  | loseLink i l was is =>
    refine State.routesNameLinks_mergeEvict
      (State.routesNameLinks_setLink hs (LinkState.not_dying_of_estimated was) (LinkState.ne_free_of_dying is))
      (fun j hj => ?_) (notEvicted was)
    rw [List.mem_singleton.1 hj, State.link_setLink_same]
    exact is
  | newLink i l was is =>
    exact State.routesNameLinks_setLink hs (by rw [was]; decide) (LinkState.ne_free_of_estimated is)
  | beginWalk =>
    rcases s.beginWalk_cases with h | ⟨-, hrun, h⟩ <;> rw [h]
    · exact hs
    · refine ⟨hfree, hempty, fun _ h => (nomatch h), fun w hw => ?_, fun h => absurd h hrun⟩
      cases hw
      exact ⟨fun i hi => ⟨hevict i hi, List.not_mem_nil⟩, fun r i hr => absurd hr (Nat.not_lt_zero r.val)⟩
  | mergeEvict is dying stopped =>
    exact State.routesNameLinks_mergeEvict hs dying (by rw [hstop stopped]; exact fun _ h => (nomatch h))
  | advanceWalk w walk h visited =>
    refine ⟨hfree, hempty, hevict, fun w' hw => ?_, fun ht => nomatch walk.symm.trans (hstop ht)⟩
    cases hw
    exact ⟨(hwalk w walk).1, fun r i hr hi => State.visited_names hs walk visited r i hr hi⟩
  | completeWalk w walk last visited =>
    have hlink := link_foldl_freeEvicted s w.evict
    have hkept (i : LinkIx) (hi : i ∉ w.evict) : (w.evict.foldl State.freeEvicted s).link i = s.link i := by
      rw [hlink, if_neg hi]
    obtain ⟨set, ls, h⟩ := freeEvicted_shape s w.evict
    rw [h] at hkept ⊢
    refine ⟨fun r i hi => ?_, hempty, fun i hi => ?_, fun _ h => (nomatch h), fun _ => rfl⟩
    · have hout := State.visited_names hs walk visited r i (by omega) hi
      exact fun h => hfree r i hi ((congrArg Link.state (hkept i hout)).symm.trans h)
    · have hout : i ∉ w.evict := fun he => ((hwalk w walk).1 i he).2 hi
      exact (congrArg (fun l => l.state.dying) (hkept i hout)).trans (hevict i hi)
  | haltWalk => exact ⟨hfree, hempty, hevict, fun _ h => (nomatch h), fun _ => rfl⟩
  | takeRoute r d q g =>
    refine State.routesNameLinks_of_routes hs rfl rfl rfl ?_ fun r' i => ?_
    · exact State.forall_route_setRoute (P := fun _ e => e.state = .empty → e = RouteEntry.empty) (fun i _ => hempty i)
        fun h => (nomatch h)
    · exact State.forall_route_setRoute (P := fun r e => e.names i → (s.route r).names i ∨ (s.link i).state.estimated = true)
        (fun _ _ => .inl) (fun h => absurd h (RouteEntry.not_taken_names d q g i)) r'
  | reroute r e used h =>
    refine State.routesNameLinks_of_routes hs rfl rfl rfl ?_ fun r' i => ?_
    · exact State.forall_route_setRoute (P := fun _ e => e.state = .empty → e = RouteEntry.empty) (fun i _ => hempty i)
        fun he => absurd he (h.used used)
    · exact State.forall_route_setRoute (P := fun r e => e.names i → (s.route r).names i ∨ (s.link i).state.estimated = true)
        (fun _ _ => .inl) (h.names i) r'
  | emptyRoute r =>
    refine State.routesNameLinks_of_routes hs rfl rfl rfl ?_ fun r' i => ?_
    · exact State.forall_route_setRoute (P := fun _ e => e.state = .empty → e = RouteEntry.empty) (fun i _ => hempty i)
        fun _ => rfl
    · exact State.forall_route_setRoute (P := fun r e => e.names i → (s.route r).names i ∨ (s.link i).state.estimated = true)
        (fun _ _ => .inl) (fun h => absurd h (RouteEntry.not_empty_names i)) r'
  | engine st n runs => exact ⟨hfree, hempty, hevict, hwalk, fun h => absurd h runs⟩
  | stop idle => exact ⟨hfree, hempty, hevict, hwalk, fun _ => idle⟩
  | identify d =>
    have hroute := s.route_forgetNode_cases d
    rw [State.forgetNode_eq] at hroute ⊢
    refine State.routesNameLinks_of_routes hs rfl rfl rfl (fun r hr => ?_) fun r i hi => ?_
    · rcases hroute r with h | h
      · exact h.trans (hempty r ((congrArg RouteEntry.state h).symm.trans hr))
      · exact h
    · rcases hroute r with h | h
      · exact .inl (h ▸ hi)
      · exact absurd (h ▸ hi : RouteEntry.empty.names i) (RouteEntry.not_empty_names i)
  | reset =>
    have hroute (r : RouteIx) : State.reset.routes[r.val] = RouteEntry.empty := by
      simp only [State.reset, Vector.getElem_replicate]
    refine ⟨fun r i hi => ?_, fun r _ => hroute r, fun _ h => (nomatch h), fun _ h => (nomatch h), fun _ => rfl⟩
    exact absurd ((hroute r) ▸ hi : RouteEntry.empty.names i) (RouteEntry.not_empty_names i)
  | _ => exact hs

/-- Settles O56: a link becomes FREE only when a walk that evicts it has visited every entry, and an entry names an estimated link
anew. -/
theorem routesNeverNameFreeLinks : Obligations.RoutesNeverNameFreeLinks := fun _ _ hs h =>
  step_keeps_of_change (fun _ _ h => h) (fun _ _ _ _ hs h => h.routesNameLinks hs) hs h

/-! ### Destinations -/

/-- The route table and the work that may take an entry name each destination once, and none that the table may not hold: what
`State.destinationsUnique` says, but for TRANSPARENT (R97). -/
def State.destinationsHeld (s : State) : Prop :=
  (∀ i j, (s.route i).state ≠ .empty → (s.route j).state ≠ .empty → (s.route i).dest = (s.route j).dest → i = j) ∧
  (∀ i, (s.route i).state ≠ .empty → s.mayHold (s.route i).dest) ∧
  (∀ i, (s.route i).state = .active ↔ (s.route i).primary.isSome = true) ∧
  (∀ i, (s.route i).state = .empty → s.route i = RouteEntry.empty) ∧
  (∀ w ∈ s.verdicts.work, w.phase ≠ .lookup → s.mayHold (hdrOrigin w.landing.words)) ∧
  (s.command.running = true → s.command.code = 0x20#8 → s.mayHold (hiHalf s.arg1))

/-- The destinations are unique exactly when they are held and TRANSPARENT has no work. -/
theorem State.destinationsUnique_iff (s : State) :
    s.destinationsUnique ↔ s.destinationsHeld ∧ (s.engine.state = .transparent → s.verdicts.work = none) := by
  simp only [State.destinationsUnique, State.destinationsHeld, and_assoc]

/-- Where each entry is EMPTY or in use for the destination it had, the destinations stay unique. -/
theorem State.routes_unique_of_kept
    (hu : ∀ i j, (s.route i).state ≠ .empty → (s.route j).state ≠ .empty → (s.route i).dest = (s.route j).dest → i = j)
    (h : ∀ i, (t.route i).state ≠ .empty → (s.route i).state ≠ .empty ∧ (t.route i).dest = (s.route i).dest) (i j : RouteIx)
    (hi : (t.route i).state ≠ .empty) (hj : (t.route j).state ≠ .empty) (hij : (t.route i).dest = (t.route j).dest) :
    i = j := by
  obtain ⟨hi, hdi⟩ := h i hi
  obtain ⟨hj, hdj⟩ := h j hj
  exact hu i j hi hj (by rw [← hdi, ← hdj, hij])

/-- A PIN ROUTE that is not refused names a destination that the table may hold (R113). -/
theorem State.mayHold_of_pin {s : State} (h : s.pinRefused = false) : s.mayHold (hiHalf s.arg1) := by
  simp only [State.pinRefused, Bool.or_eq_false_iff, beq_eq_false_iff_ne] at h
  obtain ⟨⟨⟨⟨⟨hnode, hown⟩, -⟩, -⟩, -⟩, -⟩ := h
  exact ⟨hnode, hown⟩

/-- An entry in use after a node is forgotten was in use, and for another destination. -/
theorem State.route_forgetNode_used (s : State) (d : Node)
    (hu : ∀ i j, (s.route i).state ≠ .empty → (s.route j).state ≠ .empty → (s.route i).dest = (s.route j).dest → i = j)
    (r : RouteIx) (hr : ((s.forgetNode d).route r).state ≠ .empty) :
    (s.route r).state ≠ .empty ∧ (s.forgetNode d).route r = s.route r ∧ (s.route r).dest ≠ d := by
  have hfind : State.findRoute { s with wanted := s.wanted.filter fun w => w.dest != d } d = s.findRoute d := rfl
  unfold State.forgetNode at hr ⊢
  dsimp only at hr ⊢
  rw [hfind] at hr ⊢
  cases hf : s.findRoute d with
  | none =>
    simp only [hf] at hr ⊢
    exact ⟨hr, rfl, State.findRoute_none hf r hr⟩
  | some i =>
    simp only [hf] at hr ⊢
    by_cases hri : r = i
    · subst hri
      rw [State.route_setRoute_same] at hr
      exact absurd rfl hr
    · rw [State.route_setRoute_other _ _ hri] at hr ⊢
      obtain ⟨hused, hdest⟩ := State.findRoute_some hf
      exact ⟨hr, rfl, fun h => hri (hu r i hr hused (h.trans hdest.symm))⟩

/-- An entry newly taken for a destination that has none and that the table may hold. -/
theorem State.destinationsHeld_takeRoute (hs : s.destinationsHeld) (r : RouteIx) {d : Node} (q : Option Half) (g : Bool)
    (new : s.findRoute d = none) (may : s.mayHold d) : (s.setRoute r (RouteEntry.taken d q g)).destinationsHeld := by
  obtain ⟨hunique, hmay, hactive, hempty, hwork, hpin⟩ := hs
  have hother (i : RouteIx) (hi : i ≠ r) : (s.setRoute r (RouteEntry.taken d q g)).route i = s.route i :=
    State.route_setRoute_other s _ hi
  have hdest (i : RouteIx) (hi : (s.route i).state ≠ .empty) : (s.route i).dest ≠ d := State.findRoute_none new i hi
  refine ⟨fun i j hi hj hij => ?_, ?_, ?_, ?_, hwork, hpin⟩
  · by_cases hir : i = r <;> by_cases hjr : j = r
    · rw [hir, hjr]
    · subst hir
      rw [hother j hjr] at hj hij
      rw [State.route_setRoute_same] at hij
      exact absurd hij.symm (hdest j hj)
    · subst hjr
      rw [hother i hir] at hi hij
      rw [State.route_setRoute_same] at hij
      exact absurd hij (hdest i hi)
    · rw [hother i hir] at hi hij
      rw [hother j hjr] at hj hij
      exact hunique i j hi hj hij
  · exact State.forall_route_setRoute (P := fun _ e => e.state ≠ .empty → s.mayHold e.dest) (fun i _ => hmay i) fun _ => may
  · exact State.forall_route_setRoute (P := fun _ e => e.state = .active ↔ e.primary.isSome = true) (fun i _ => hactive i)
      ⟨fun h => (nomatch h), fun h => (nomatch h)⟩
  · exact State.forall_route_setRoute (P := fun _ e => e.state = .empty → e = RouteEntry.empty) (fun i _ => hempty i)
      fun h => (nomatch h)

/-- An entry that becomes EMPTY, or stays in use for its destination. -/
theorem State.destinationsHeld_setRoute (hs : s.destinationsHeld) (r : RouteIx) {e : RouteEntry}
    (used : e.state ≠ .empty → (s.route r).state ≠ .empty ∧ e.dest = (s.route r).dest)
    (active : e.state = .active ↔ e.primary.isSome = true) (empty : e.state = .empty → e = RouteEntry.empty) :
    (s.setRoute r e).destinationsHeld := by
  obtain ⟨hunique, hmay, hactive, hempty, hwork, hpin⟩ := hs
  have hkept : ∀ i, ((s.setRoute r e).route i).state ≠ .empty →
      (s.route i).state ≠ .empty ∧ ((s.setRoute r e).route i).dest = (s.route i).dest :=
    State.forall_route_setRoute (P := fun i e => e.state ≠ .empty → (s.route i).state ≠ .empty ∧ e.dest = (s.route i).dest)
      (fun _ _ h => ⟨h, rfl⟩) used
  refine ⟨State.routes_unique_of_kept hunique hkept, fun i hi => ?_, ?_, ?_, hwork, hpin⟩
  · obtain ⟨hused, hdest⟩ := hkept i hi
    rw [hdest]
    exact hmay i hused
  · exact State.forall_route_setRoute (P := fun _ e => e.state = .active ↔ e.primary.isSome = true) (fun i _ => hactive i) active
  · exact State.forall_route_setRoute (P := fun _ e => e.state = .empty → e = RouteEntry.empty) (fun i _ => hempty i) empty

/-- Every change of a step from a state in which TRANSPARENT is quiet keeps the destinations held. -/
theorem Change.destinationsHeld (h : Change o s t) (quiet : o.transparentIsQuiet) (hs : s.destinationsHeld) :
    t.destinationsHeld := by
  have ⟨hunique, hmay, hactive, hempty, hwork, hpin⟩ := hs
  cases h with
  | other t h => rw [h]; exact hs
  | beginWalk => rw [State.beginWalk_eq]; exact hs
  | completeWalk w =>
    obtain ⟨set, ls, h⟩ := freeEvicted_shape s w.evict
    rw [h]
    exact hs
  | takeRoute r d q g new may =>
    refine State.destinationsHeld_takeRoute hs r q g new ?_
    rcases may with ⟨w, hw, hphase, rfl⟩ | ⟨hrun, hcode, rfl⟩
    · exact hwork w hw hphase
    · exact hpin hrun hcode
  | reroute r e used h =>
    exact State.destinationsHeld_setRoute hs r (fun _ => ⟨used, h.dest⟩) (h.active (hactive r))
      fun he => absurd he (h.used used)
  | emptyRoute r =>
    exact State.destinationsHeld_setRoute hs r (fun h => absurd rfl h) ⟨fun h => (nomatch h), fun h => (nomatch h)⟩ fun _ => rfl
  | idle c h => exact ⟨hunique, hmay, hactive, hempty, hwork, fun hrun => absurd hrun (Bool.eq_false_iff.1 h)⟩
  | run h => exact ⟨hunique, hmay, hactive, hempty, hwork, fun _ hcode => State.mayHold_of_pin (h hcode)⟩
  | identify d seed valid idle h =>
    have hnone := h quiet
    have hused := s.route_forgetNode_used d hunique
    have hcases := s.route_forgetNode_cases d
    rw [State.forgetNode_eq] at hused hcases ⊢
    refine ⟨State.routes_unique_of_kept hunique fun i hi => ?_, fun i hi => ?_, fun i => ?_, fun i hi => ?_,
      fun w hw => (nomatch hnone.symm.trans hw), fun hrun => absurd hrun (Bool.eq_false_iff.1 idle)⟩
    · obtain ⟨hi, heq, -⟩ := hused i hi
      exact ⟨hi, congrArg RouteEntry.dest heq⟩
    · obtain ⟨hi, heq, hdest⟩ := hused i hi
      have hold := hmay i hi
      rw [← heq] at hold hdest
      exact ⟨hold.1, hdest⟩
    · rcases hcases i with h | h
      · have := hactive i
        rw [← h] at this
        exact this
      · show (State.route _ i).state = _ ↔ _
        exact h ▸ ⟨fun h => (nomatch h), fun h => (nomatch h)⟩
    · rcases hcases i with h | h
      · exact h.trans (hempty i ((congrArg RouteEntry.state h).symm.trans hi))
      · exact h
  | endWork => exact ⟨hunique, hmay, hactive, hempty, fun _ h => (nomatch h), hpin⟩
  | mapWork f words phase =>
    refine ⟨hunique, hmay, hactive, hempty, fun w' hw' hphase => ?_, hpin⟩
    obtain ⟨w, hw, rfl⟩ := Option.map_eq_some_iff.1 hw'
    rw [words]
    exact hwork w hw fun h => hphase ((phase w).2 h)
  | await l ph may =>
    refine ⟨hunique, hmay, hactive, hempty, fun w hw hphase => ?_, hpin⟩
    cases hw
    rcases may hphase with h | ⟨w, hw, hp, hwords⟩
    · exact h
    · rw [← hwords]
      exact hwork w hw hp
  | reset p d q n c count cmd idle =>
    have hroute (r : RouteIx) : State.reset.routes[r.val] = RouteEntry.empty := by
      simp only [State.reset, Vector.getElem_replicate]
    have hstate (r : RouteIx) : (State.reset.routes[r.val]).state = .empty := by rw [hroute]; rfl
    refine ⟨fun i _ hi => absurd (hstate i) hi, fun i hi => absurd (hstate i) hi, fun i => ?_, fun i _ => hroute i,
      fun _ h => (nomatch h), fun hrun => absurd hrun (Bool.eq_false_iff.1 idle)⟩
    show (State.reset.routes[i.val]).state = .active ↔ (State.reset.routes[i.val]).primary.isSome = true
    rw [hroute]
    exact ⟨fun h => (nomatch h), fun h => (nomatch h)⟩
  | _ => exact hs

/-- Every step from a state in which TRANSPARENT is quiet keeps the destinations held. -/
theorem step_keeps_destinationsHeld (quiet : s.transparentIsQuiet) (hs : s.destinationsHeld) (h : step s = .next t) :
    t.destinationsHeld := by
  obtain ⟨rest, hmove⟩ := move_of_step h
  have hquiet : State.transparentIsQuiet { s with pending := rest } := quiet
  exact hmove.chain.keeps (fun _ _ hs h => h.destinationsHeld hquiet hs) hs

end Sys2Proof.Machine
end

section
/-! PROOFS. What an act leaves of the passes and of the work in the part: two views of the state, that most operations leave as they
are, and the two ways in which a step of the Verdict Unit ends. -/

namespace Sys2Proof.Machine

variable {s t u : State}

/-! ### Two views of the state -/

/-- What the passes rest on: slot records, bindings, the held access, the landings in the Verdict Unit, and whether the engine
runs. -/
structure Flow where
  slots : Vector SlotRecord 512
  bindings : Vector (Option Binding) 3
  held : Option Held
  waiting : List Landing
  landing : Option Landing
  runs : Bool

/-- The passes' view of a state. -/
def State.flow (s : State) : Flow :=
  { slots := s.slots, bindings := s.overlay.bindings, held := s.bus.held, waiting := s.verdicts.waiting
    landing := s.verdicts.work.map fun w => w.landing, runs := s.engineRuns }

/-- What else is at rest in TRANSPARENT: the outcome queue, the sweep, the purge window, the walk and the engine's own fields. -/
structure Rest where
  outcomes : List OutcomeEntry
  metric : MetricUnit
  window : Option Nat
  walk : Option Walk
  engine : Engine

/-- That view of a state. -/
def State.rest (s : State) : Rest :=
  { outcomes := s.outcomes, metric := s.metric, window := s.purge.window, walk := s.walker.walk, engine := s.engine }

/-- The slots of a view. -/
theorem State.slot_of_flow (h : t.flow = s.flow) (k : SlotNo) : t.slot k = s.slot k :=
  congrArg (fun f : Flow => f.slots[k.val]) h

/-- The bindings of a view. -/
theorem State.binding_of_flow (h : t.flow = s.flow) (p : Port) : t.binding p = s.binding p :=
  congrArg (fun f : Flow => f.bindings[p.val]) h

/-- The landings of a view. -/
theorem State.landings_of_flow (h : t.flow = s.flow) : t.landings = s.landings :=
  congrArg (fun f : Flow => f.landing.toList ++ f.waiting) h

/-- The held access of a view. -/
theorem State.held_of_flow (h : t.flow = s.flow) : t.bus.held = s.bus.held := congrArg Flow.held h

/-- Whether the engine runs, of a view. -/
theorem State.engineRuns_of_flow (h : t.flow = s.flow) : t.engineRuns = s.engineRuns := congrArg Flow.runs h

/-! ### Operations on tables, lists and counters leave the passes -/

/-- Counting in a list of counters. -/
theorem State.flow_countAll (s : State) (cs : List Counter) : (s.countAll cs).flow = s.flow := by
  rw [State.countAll_eq]; rfl

/-- A conditional raise. -/
theorem State.flow_raiseIf (s : State) (c : Bool) (e : EventSource) : (s.raiseIf c e).flow = s.flow := by
  rw [State.raiseIf_eq]; rfl

/-- A hello. -/
theorem State.flow_takeHello (s : State) (n : LinkName) (x : Int) (q : Half) : (s.takeHello n x q).flow = s.flow := by
  rw [State.takeHello_eq]; rfl

/-- A frame's link update. -/
theorem State.flow_updateLinkFromFrame (s : State) (n : LinkName) (x : Int) (r : Fin 8) :
    (s.updateLinkFromFrame n x r).flow = s.flow := by
  rw [State.updateLinkFromFrame_eq]; rfl

/-- A selection. -/
theorem State.flow_reselect (s : State) (i : RouteIx) (e : RouteEntry) : (s.reselect i e).flow = s.flow := by
  rw [State.reselect_eq]; rfl

/-- A wanted-list request. -/
theorem State.flow_requestWanted (s : State) (d : Node) : (s.requestWanted d).flow = s.flow := by
  rw [State.requestWanted_eq]; rfl

/-- A walk's beginning. -/
theorem State.flow_beginWalk (s : State) : s.beginWalk.flow = s.flow := by
  rw [State.beginWalk_eq]; rfl

/-- A completion. -/
theorem State.flow_completeRunning (s : State) (r : Result) : (s.completeRunning r).flow = s.flow := rfl

/-- Another requester's step ends. -/
theorem State.flow_afterOtherStep (s : State) : s.afterOtherStep.flow = s.flow := by
  have hlanding : s.afterOtherStep.verdicts.work.map (fun w => w.landing) = s.verdicts.work.map fun w => w.landing := by
    show (s.verdicts.work.map _).map _ = _
    rw [Option.map_map]
    congr 1
    funext w
    show (match w.phase with | .choosing m p i _ => _ | _ => w : VerdictWork).landing = w.landing
    split <;> rfl
  show { s.flow with landing := s.afterOtherStep.verdicts.work.map fun w => w.landing } = s.flow
  rw [hlanding]
  rfl

/-- An outcome on its link. -/
theorem State.flow_applyOutcome (s : State) (x : OutcomeEntry) : (s.applyOutcome x).flow = s.flow := by
  rw [State.applyOutcome_eq]; rfl

/-- A sweep's visit. -/
theorem State.flow_visitLink (s : State) (i : LinkIx) : (s.visitLink i).flow = s.flow := by
  rw [State.visitLink_eq]; rfl

/-- A sweep's advance. -/
theorem State.flow_advanceSweep (s : State) (i : LinkIx) : (s.advanceSweep i).flow = s.flow := by
  unfold State.advanceSweep
  split
  · rfl
  · rw [State.requestRefresh_eq]; rfl

/-- The purges of a set of links. -/
theorem State.flow_purgeLinks (s : State) (ns : List LinkName) : (ns.foldl State.purgeLink s).flow = s.flow := by
  induction ns generalizing s with
  | nil => rfl
  | cons n ns ih =>
    have hone : (s.purgeLink n).flow = s.flow := by rw [State.purgeLink_eq]; rfl
    exact (ih (s.purgeLink n)).trans hone

/-- A purge window's expiry. -/
theorem State.flow_purgeWindowExpiry (s : State) : s.purgeWindowExpiry.flow = s.flow := by
  unfold State.purgeWindowExpiry
  split
  · rfl
  · split
    · rfl
    · dsimp only
      rw [State.flow_beginWalk]
      exact State.flow_purgeLinks _ _

/-- A settle sample: the engine runs on. -/
theorem State.flow_settleSample (s : State) : s.settleSample.flow = s.flow := by
  unfold State.settleSample
  split
  next h =>
    have hruns : s.engineRuns = true := by simp [State.engineRuns, h]
    dsimp only
    split
    · show { s.flow with runs := true } = s.flow
      rw [← hruns]
      rfl
    · rfl
  next => rfl

/-- A sample timer's expiry. -/
theorem State.flow_sampleExpiry (s : State) : s.sampleExpiry.flow = s.flow := by
  unfold State.sampleExpiry
  split
  · rfl
  · split
    · rfl
    · dsimp only
      rw [State.flow_settleSample, State.ageWanted_eq, State.requestSweep_eq]
      rfl

/-- A walk's step. -/
theorem State.flow_walkerStep (s : State) (w : Walk) : ((s.walkEntry w).advanceWalk w).flow = s.flow := by
  have hvisit : (s.walkEntry w).flow = s.flow := by rw [State.walkEntry_eq]; rfl
  refine Eq.trans ?_ hvisit
  generalize s.walkEntry w = t
  unfold State.advanceWalk
  split
  · rfl
  · unfold State.completeWalk
    dsimp only
    rw [State.flow_beginWalk]
    obtain ⟨set, ls, h⟩ := freeEvicted_shape t w.evict
    rw [h, State.raiseIf_eq]
    split <;> rfl

/-! ### The steps of commands -/

/-- What a selection leaves. -/
theorem State.rest_reselect (s : State) (i : RouteIx) (e : RouteEntry) : (s.reselect i e).rest = s.rest := by
  rw [State.reselect_eq]; rfl

/-- The step of PIN ROUTE leaves both views. -/
theorem State.views_pinStepBody (s : State) : s.pinStepBody.flow = s.flow ∧ s.pinStepBody.rest = s.rest := by
  unfold State.pinStepBody
  dsimp only
  split
  · exact ⟨s.flow_reselect _ _, s.rest_reselect _ _⟩
  · split
    · exact ⟨s.flow_reselect _ _, s.rest_reselect _ _⟩
    · exact ⟨rfl, rfl⟩

/-- The step of UNPIN leaves both views. -/
theorem State.views_unpinStepBody (s : State) : s.unpinStepBody.flow = s.flow ∧ s.unpinStepBody.rest = s.rest := by
  unfold State.unpinStepBody
  split
  · exact ⟨rfl, rfl⟩
  · split
    · exact ⟨s.flow_reselect _ _, s.rest_reselect _ _⟩
    · exact ⟨rfl, rfl⟩

/-- The step of READ ROUTE leaves both views. -/
theorem State.views_readRouteStepBody (s : State) :
    s.readRouteStepBody.flow = s.flow ∧ s.readRouteStepBody.rest = s.rest := by
  unfold State.readRouteStepBody
  split <;> exact ⟨rfl, rfl⟩

/-- The step of READ WANTED leaves both views. -/
theorem State.views_readWantedStepBody (s : State) :
    s.readWantedStepBody.flow = s.flow ∧ s.readWantedStepBody.rest = s.rest := by
  unfold State.readWantedStepBody
  dsimp only
  split <;> exact ⟨rfl, rfl⟩

/-- The step of RELEASE WANTED leaves both views. -/
theorem State.views_releaseWantedStepBody (s : State) :
    s.releaseWantedStepBody.flow = s.flow ∧ s.releaseWantedStepBody.rest = s.rest := by
  unfold State.releaseWantedStepBody
  dsimp only
  split <;> exact ⟨rfl, rfl⟩

/-! ### The bodies of commands -/

/-- What a command's body does to the passes: nothing, or it starts, stops or resets the part. -/
inductive State.BodyFlow (s : State) : State → Prop
  | still (t : State) (h : t.flow = s.flow) (rest : s.transparentIsQuiet → s.engineRuns = false → t.rest = s.rest) : BodyFlow s t
  | started (h : s.engineRuns = false) : BodyFlow s (s.begin.finish .done)
  | stopped (h : s.engineRuns = true) : BodyFlow s (s.halt.finish .done)
  | restarted : BodyFlow s s.restart

/-- A body that leaves both views. -/
theorem State.BodyFlow.of_views (h : t.flow = s.flow) (h' : t.rest = s.rest) : s.BodyFlow t := .still t h fun _ _ => h'

/-- A body that refuses unless the engine runs leaves TRANSPARENT as it is. -/
theorem State.BodyFlow.of_running (hr : s.engineRuns = true) (h : t.flow = s.flow) : s.BodyFlow t :=
  .still t h fun _ hn => absurd (hr.symm.trans hn) nofun

/-- A body chosen by the code. -/
theorem State.BodyFlow.of_ite {c : Prop} [Decidable c] {f g : State → State} (hf : s.BodyFlow (f s)) (hg : s.BodyFlow (g s)) :
    s.BodyFlow ((if c then f else g) s) := by
  split
  · exact hf
  · exact hg

/-- PURGE ADD. -/
theorem State.bodyFlow_purgeAdd (s : State) : s.BodyFlow s.purgeAdd := by
  unfold State.purgeAdd
  split
  · exact .of_views rfl rfl
  next hruns =>
    have hruns : s.engineRuns = true := by simpa using hruns
    split
    · exact .of_views rfl rfl
    · split
      · exact .of_views rfl rfl
      · split
        · exact .of_views rfl rfl
        · refine .of_running hruns ?_
          unfold State.joinBars
          split <;> split <;> rfl

/-- SET REGION. -/
theorem State.bodyFlow_setRegion (s : State) : s.BodyFlow s.setRegion := by
  unfold State.setRegion State.changeRegion
  dsimp only
  repeat' split
  all_goals exact .of_views rfl rfl

/-- SET TIMING: in TRANSPARENT the sample timer is stopped. -/
theorem State.bodyFlow_setTiming (s : State) : s.BodyFlow s.setTiming := by
  unfold State.setTiming State.reloadTimer
  split
  next h =>
    refine .still _ rfl fun hquiet hruns => ?_
    obtain ⟨-, -, -, -, -, -, -, -, hexpiry, -⟩ := hquiet (by simpa [State.engineRuns] using hruns)
    simp [hexpiry] at h
  next => exact .of_views rfl rfl

/-- SET IDENTITY. -/
theorem State.bodyFlow_setIdentity (s : State) : s.BodyFlow s.setIdentity := by
  unfold State.setIdentity
  split
  · exact .of_views rfl rfl
  · split
    · exact .of_views rfl rfl
    · rw [State.forgetNode_eq]
      exact .of_views rfl rfl

/-- FLUSH ROUTES. -/
theorem State.bodyFlow_flushRoutes (s : State) : s.BodyFlow s.flushRoutes := by
  unfold State.flushRoutes
  split
  next hruns => exact .of_running hruns (by rw [State.requestFlush_eq]; rfl)
  next => exact .of_views rfl rfl

/-- START: every test that it passes finds the engine at rest. -/
theorem State.bodyFlow_start (s : State) : s.BodyFlow s.start := by
  unfold State.start
  split
  · exact .of_views rfl rfl
  next h =>
    refine .started ?_
    cases hruns : s.engineRuns with
    | false => rfl
    | true => simp [State.startRefusal, hruns] at h

/-- What a taken command does to the passes. -/
theorem commandBody_flow (s : State) (code : Byte) : s.BodyFlow (commandBody code s) := by
  have still {t : State} (h : t.flow = s.flow) (h' : t.rest = s.rest) : s.BodyFlow t := .of_views h h'
  unfold commandBody
  refine .of_ite s.bodyFlow_setIdentity ?_
  refine .of_ite s.bodyFlow_setRegion ?_
  refine .of_ite ?_ ?_
  · unfold State.setRoles
    repeat' split
    all_goals exact still rfl rfl
  refine .of_ite s.bodyFlow_setTiming ?_
  refine .of_ite (still rfl rfl) ?_
  refine .of_ite (still rfl rfl) ?_
  refine .of_ite s.bodyFlow_start ?_
  refine .of_ite ?_ ?_
  · unfold State.stop
    split
    next h => exact .stopped h
    next => exact still rfl rfl
  refine .of_ite .restarted ?_
  refine .of_ite ?_ ?_
  · unfold State.pinRoute
    split <;> exact still rfl rfl
  refine .of_ite (still rfl rfl) ?_
  refine .of_ite s.bodyFlow_purgeAdd ?_
  refine .of_ite ?_ ?_
  · refine .still _ rfl fun hquiet hruns => ?_
    obtain ⟨-, -, -, -, -, -, hwindow, -⟩ := hquiet (by simpa [State.engineRuns] using hruns)
    show { s.rest with window := none } = s.rest
    rw [← hwindow]
    rfl
  refine .of_ite ?_ ?_
  · unfold State.unbar
    split <;> exact still rfl rfl
  refine .of_ite s.bodyFlow_flushRoutes ?_
  refine .of_ite (still rfl rfl) ?_
  refine .of_ite ?_ ?_
  · unfold State.readLink
    split <;> exact still rfl rfl
  refine .of_ite ?_ ?_
  · unfold State.readSlot
    split <;> exact still rfl rfl
  refine .of_ite (still rfl rfl) ?_
  refine .of_ite (still rfl rfl) ?_
  exact .of_ite (still rfl rfl) (still rfl rfl)

/-! ### How a step of the Verdict Unit ends -/

/-- A verdict carries a reason exactly when it is DROP-REFUSED. -/
def Verdict.formed (v : Verdict) : Prop := v.reason.isSome = true ↔ v.code = .dropRefused

/-- A verdict's code and reason as the stages give them: without a reason, and not DROP-REFUSED. -/
theorem Verdict.formed_plain {c : VerdictCode} (h : c ≠ .dropRefused) : (Verdict.plain c).formed :=
  ⟨fun h => (nomatch h), fun hc => absurd hc h⟩

/-- A masked verdict. -/
theorem Verdict.formed_masked {c : VerdictCode} (m : PortMask) (h : c ≠ .dropRefused) : (Verdict.masked c m).formed :=
  ⟨fun h => (nomatch h), fun hc => absurd hc h⟩

/-- A refusal. -/
theorem Verdict.formed_refused (r : RefusalReason) : (Verdict.refused r).formed := ⟨fun _ => rfl, fun _ => rfl⟩

/-- A verdict over a link. -/
theorem Verdict.formed_forwardOver (n : LinkName) : (Verdict.forwardOver n).formed :=
  ⟨fun h => (nomatch h), fun h => (nomatch h)⟩

/-- A step on a landing's computation ends with a verdict, or leaves the computation waiting for a table step; besides that it
leaves the passes. -/
inductive State.Decision (s : State) (l : Landing) : State → Prop
  | concluded (u : State) (v : Verdict) (h : u.flow = s.flow) (formed : v.formed) : Decision s l (u.conclude l v)
  | awaits (u : State) (ph : WorkPhase) (h : u.flow = s.flow) : Decision s l (u.await l ph)

/-- A decision made after operations that leave the passes. -/
theorem State.Decision.of_flow {l : Landing} (h : u.flow = s.flow) (hd : u.Decision l t) : s.Decision l t := by
  cases hd with
  | concluded v w hw formed => exact .concluded v w (hw.trans h) formed
  | awaits v ph hw => exact .awaits v ph (hw.trans h)

/-- A verdict at once. -/
theorem State.Decision.conclude (s : State) (l : Landing) {v : Verdict} (h : v.formed) : s.Decision l (s.conclude l v) :=
  .concluded s v rfl h

/-- A plain verdict at once. -/
theorem State.Decision.plain (s : State) (l : Landing) {c : VerdictCode} (h : c ≠ .dropRefused) :
    s.Decision l (s.conclude l (.plain c)) := .concluded s _ rfl (Verdict.formed_plain h)

/-- Broadcast data. -/
theorem State.decision_stageBroadcast (s : State) (l : Landing) : s.Decision l (s.stageBroadcast l) := by
  unfold State.stageBroadcast
  dsimp only
  split
  · exact .plain s l (by decide)
  · split
    · exact .concluded _ _ rfl (Verdict.formed_masked _ (by decide))
    · exact .concluded _ _ rfl (Verdict.formed_plain (by decide))

/-- Stage 8. -/
theorem State.decision_stageData (s : State) (l : Landing) : s.Decision l (s.stageData l) := by
  unfold State.stageData
  split
  · exact .conclude s l (Verdict.formed_refused _)
  split
  · exact .plain s l (by decide)
  split
  · exact s.decision_stageBroadcast l
  split
  · exact .plain s l (by decide)
  split
  · exact .plain s l (by decide)
  · exact .awaits s _ rfl

/-- Stage 7. -/
theorem State.decision_stageNotice (s : State) (l : Landing) : s.Decision l (s.stageNotice l) := by
  unfold State.stageNotice
  split
  · exact .plain s l (by decide)
  · exact .awaits s _ rfl

/-- The stages. -/
theorem State.decision_runStages (s : State) (l : Landing) : s.Decision l (s.runStages l) := by
  unfold State.runStages
  split
  · exact .plain s l (by decide)
  split
  · exact .plain s l (by decide)
  split
  · exact .plain s l (by decide)
  split
  · exact .plain s l (by decide)
  split
  · exact .conclude s l (Verdict.formed_refused _)
  split
  · exact .conclude s l (Verdict.formed_refused _)
  unfold State.stageKinds
  split
  · exact .concluded _ _ ((State.flow_updateLinkFromFrame _ _ _ _).trans (s.flow_takeHello _ _ _)) (Verdict.formed_plain (by decide))
  dsimp only
  split
  · exact .of_flow (s.flow_updateLinkFromFrame _ _ _) (State.decision_stageNotice _ l)
  · exact .of_flow (s.flow_updateLinkFromFrame _ _ _) (State.decision_stageData _ l)

/-- The learning step. -/
theorem State.decision_learn (s : State) (l : Landing) (m : PortMask) (perm : Bool) : s.Decision l (s.learn l m perm) := by
  have learned (i : LinkIx) (r : RouteIx) (e : RouteEntry) : s.Decision l (s.learned l m perm i r e) := .awaits _ _ rfl
  unfold State.learn
  split
  · exact .plain s l (by decide)
  split
  · split
    · split
      · exact .plain s l (by decide)
      · exact learned _ _ _
    · split
      · exact learned _ _ _
      · exact .concluded _ _ rfl (Verdict.formed_plain (by decide))
  · exact .plain s l (by decide)

/-- The choosing step. -/
theorem State.decision_choose (s : State) (l : Landing) (m : PortMask) (perm : Bool) (i : LinkIx) :
    s.Decision l (s.choose l m perm i) := by
  unfold State.choose
  split
  · exact .plain s l (by decide)
  next r _ =>
    dsimp only
    split
    · exact .concluded _ _ (s.flow_reselect r _) (Verdict.formed_masked m (by decide))
    · exact .concluded _ _ (s.flow_reselect r _) (Verdict.formed_plain (by decide))

/-- A lookup that finds no primary. -/
theorem State.decision_noPrimary (s : State) (l : Landing) : s.Decision l (s.noPrimary l) := by
  unfold State.noPrimary
  dsimp only
  split
  · exact .concluded _ _ (s.flow_requestWanted _) (Verdict.formed_plain (by decide))
  · exact .plain s l (by decide)

/-- The forwarding lookup. -/
theorem State.decision_lookupForward (s : State) (l : Landing) : s.Decision l (s.lookupForward l) := by
  unfold State.lookupForward
  split
  · exact s.decision_noPrimary l
  next r _ =>
    split
    · exact s.decision_noPrimary l
    · split
      · exact .conclude s l (Verdict.formed_forwardOver _)
      · dsimp only
        split
        · exact .of_flow (s.flow_reselect r _) (State.decision_noPrimary _ l)
        · exact .concluded _ _ (s.flow_reselect r _) (Verdict.formed_forwardOver _)

end Sys2Proof.Machine
end

section
/-! PROOFS. In TRANSPARENT nothing runs (O55), and with it the destinations stay unique (O57). -/

namespace Sys2Proof.Machine

variable {s t : State}

/-! ### Quiet states -/

/-- In TRANSPARENT nothing runs: the engine runs, or the state is quiet. -/
theorem State.transparentIsQuiet_iff (s : State) : s.transparentIsQuiet ↔ s.engineRuns = true ∨ s.quiet := by
  unfold State.transparentIsQuiet State.engineRuns
  cases s.engine.state <;> simp

/-- A quiet state's views show it quiet. -/
theorem State.quiet_of_views (h : t.flow = s.flow) (h' : t.rest = s.rest) (hs : s.quiet) : t.quiet := by
  obtain ⟨hslots, hwork, hwaiting, hheld, hout, hmetric, hwindow, hwalk, hexpiry, hsettle, hbindings⟩ := hs
  have hengine : t.engine = s.engine := congrArg Rest.engine h'
  refine ⟨fun k => (State.slot_of_flow h k).trans (hslots k), ?_, (congrArg Flow.waiting h).trans hwaiting,
    (State.held_of_flow h).trans hheld, (congrArg Rest.outcomes h').trans hout, (congrArg Rest.metric h').trans hmetric,
    (congrArg Rest.window h').trans hwindow, (congrArg Rest.walk h').trans hwalk, by rw [hengine, hexpiry],
    by rw [hengine, hsettle], fun p => (State.binding_of_flow h p).trans (hbindings p)⟩
  have hlanding : t.verdicts.work.map (fun w => w.landing) = s.verdicts.work.map fun w => w.landing := congrArg Flow.landing h
  rw [hwork] at hlanding
  exact Option.map_eq_none_iff.1 hlanding

/-- What leaves both views leaves TRANSPARENT quiet. -/
theorem State.transparentIsQuiet_of_views (h : t.flow = s.flow) (h' : t.rest = s.rest) (hs : s.transparentIsQuiet) :
    t.transparentIsQuiet := by
  rw [State.transparentIsQuiet_iff] at hs ⊢
  rw [State.engineRuns_of_flow h]
  exact hs.imp_right (State.quiet_of_views h h')

/-- Where the engine runs on, TRANSPARENT is as quiet as it was. -/
theorem State.transparentIsQuiet_of_runs (h : t.engineRuns = true) : t.transparentIsQuiet :=
  (State.transparentIsQuiet_iff t).2 (.inl h)

/-- A block reset leaves the part quiet. -/
theorem State.blockReset_quiet (s : State) : s.blockReset.quiet := by
  refine ⟨fun k => ?_, rfl, rfl, rfl, rfl, rfl, rfl, rfl, rfl, rfl, fun p => ?_⟩
  · show State.reset.slots[k.val] = _
    simp only [State.reset, Vector.getElem_replicate]
  · show State.reset.overlay.bindings[p.val] = _
    simp only [State.reset, Overlay.reset, Vector.getElem_replicate]

/-! ### The beginning of a hardware reset -/

/-- An unaltered release leaves no access held (R24). -/
theorem State.releaseUnaltered_held (s : State) : s.releaseUnaltered.bus.held = none := by
  unfold State.releaseUnaltered
  split
  next h => exact h
  · rfl
  · rfl

/-- What the passes are after the beginning of a hardware reset: nothing. -/
theorem State.flow_discardWork (s : State) :
    s.discardWork.flow =
      { slots := Vector.replicate 512 SlotRecord.vacant, bindings := Vector.replicate 3 none, held := none, waiting := []
        landing := none, runs := s.engineRuns } := by
  have hheld := s.releaseUnaltered_held
  have hruns : s.releaseUnaltered.engineRuns = s.engineRuns := by rw [State.releaseUnaltered_eq]; rfl
  show (⟨_, _, s.releaseUnaltered.bus.held, _, _, s.releaseUnaltered.engineRuns⟩ : Flow) = _
  rw [hheld, hruns]
  rfl

/-- The beginning of a hardware reset leaves the rest. -/
theorem State.rest_discardWork (s : State) : s.discardWork.rest = s.rest := by
  unfold State.discardWork
  rw [State.releaseUnaltered_eq]
  rfl

/-- A quiet state has nothing to discard. -/
theorem State.discardWork_quiet (hs : s.transparentIsQuiet) : s.discardWork.transparentIsQuiet := by
  rw [State.transparentIsQuiet_iff] at hs ⊢
  have h := s.flow_discardWork
  have h' := s.rest_discardWork
  refine hs.imp ?_ fun ⟨_, _, _, _, hout, hmetric, hwindow, hwalk, hexpiry, hsettle, _⟩ => ?_
  · intro hr
    exact (congrArg Flow.runs h).trans hr
  · have hengine : s.discardWork.engine = s.engine := congrArg Rest.engine h'
    refine ⟨fun k => ?_, rfl, rfl, congrArg Flow.held h, (congrArg Rest.outcomes h').trans hout,
      (congrArg Rest.metric h').trans hmetric, (congrArg Rest.window h').trans hwindow, (congrArg Rest.walk h').trans hwalk,
      by rw [hengine, hexpiry], by rw [hengine, hsettle], fun p => ?_⟩
    · exact (congrArg (fun f : Flow => f.slots[k.val]) h).trans (Vector.getElem_replicate _)
    · exact (congrArg (fun f : Flow => f.bindings[p.val]) h).trans (Vector.getElem_replicate _)

/-! ### Operations on slots and passes leave the engine -/

/-- The end of a computation. -/
theorem State.engineRuns_announce (s : State) (l : Landing) (v : Verdict) : (s.announce l v).engineRuns = s.engineRuns := by
  rw [State.announce_eq]; rfl

/-- A decision. -/
theorem State.Decision.engineRuns {l : Landing} (h : s.Decision l t) : t.engineRuns = s.engineRuns := by
  cases h with
  | concluded u v h => exact (State.engineRuns_announce _ l v).trans (State.engineRuns_of_flow (t := u) h)
  | awaits u ph h => exact State.engineRuns_of_flow (t := u) h

/-- A landing's write at the tap. -/
theorem State.engineRuns_tapLanding (s : State) (a : WriteAccess) (n : LinkName) :
    (s.tapLanding a n).engineRuns = s.engineRuns := by
  unfold State.tapLanding
  split <;> rfl

/-- A landing submitted. -/
theorem State.engineRuns_submit (s : State) (l : Landing) : (s.submit l).engineRuns = s.engineRuns := by
  unfold State.submit
  split
  · exact (s.decision_runStages l).engineRuns
  · split
    · rfl
    · unfold State.overflow
      dsimp only
      rw [State.recordVerdict_eq]
      split
      · rw [State.releaseLanding_eq]; rfl
      · rfl

/-- A landing. -/
theorem State.engineRuns_land (s : State) (p : Port) (k : SlotNo) (a : WriteAccess) : (s.land p k a).engineRuns = s.engineRuns :=
  (State.engineRuns_submit _ _).trans (State.engineRuns_tapLanding _ _ _)

/-- A stray landing. -/
theorem State.engineRuns_landStray (s : State) (p : Port) (k : SlotNo) (a : WriteAccess) :
    (s.landStray p k a).engineRuns = s.engineRuns := by
  refine (State.engineRuns_announce _ _ _).trans ((State.engineRuns_tapLanding _ _ _).trans ?_)
  rw [State.endForFill_eq]
  rfl

/-- A receive header write. -/
theorem State.engineRuns_headerAccess (s : State) (p : Port) (k : SlotNo) (w : HeaderIx) (a : WriteAccess) :
    (s.headerAccess p k w a).engineRuns = s.engineRuns := by
  unfold State.headerAccess State.receiveHeader
  dsimp only
  split
  · rfl
  · rw [State.endForFill_eq, State.abandonOther_eq]
    rfl

/-- A matched outcome. -/
theorem State.engineRuns_matchedAccess (s : State) (k : SlotNo) (a : WriteAccess) :
    (s.matchedAccess k a).engineRuns = s.engineRuns := by
  unfold State.matchedAccess
  rw [State.takeOutcome_eq]
  rfl

/-- A superseded pass. -/
theorem State.engineRuns_supersedeOther (s : State) (p : Port) (k : SlotNo) :
    (s.supersedeOther p k).engineRuns = s.engineRuns := by
  unfold State.supersedeOther
  split <;> rfl

/-- A pass begun. -/
theorem State.engineRuns_beginPass (s : State) (p : Port) (k : SlotNo) (a : WordAddr) :
    (s.beginPass p k a).engineRuns = s.engineRuns := by
  unfold State.beginPass
  dsimp only
  generalize hs1 : (s.endForSend k).supersedeOther p k = s1
  have h1 : s1.engineRuns = s.engineRuns := by
    have hend : (s.endForSend k).engineRuns = s.engineRuns := by rw [State.endForSend_eq]; rfl
    rw [← hs1, State.engineRuns_supersedeOther, hend]
  refine Eq.trans ?_ h1
  generalize ({ s1.slot k with
    state := .inSend, passPort := some p, progress := 0, deadline := none, sentLink := none } : SlotRecord) = r
  rw [State.advanceSequence_eq]
  split
  · rfl
  · rw [State.bindPass_eq]
    rfl

/-- A word of a pass. -/
theorem State.engineRuns_readPassWord (s : State) (p : Port) (k : SlotNo) (w : HeaderIx) (a : WordAddr) :
    (s.readPassWord p k w a).engineRuns = s.engineRuns := by
  unfold State.readPassWord
  dsimp only
  split
  · rfl
  · split <;> rfl

/-- A pass-start lookup's answer. -/
theorem State.engineRuns_answerLookup (s : State) (p : Port) (b : Binding) : (s.answerLookup p b).engineRuns = s.engineRuns := by
  unfold State.answerLookup State.countIf
  dsimp only
  rw [State.bindPass_eq]
  split <;> rfl

/-- A landing hold's expiry. -/
theorem State.engineRuns_landingHoldExpiry (s : State) : s.landingHoldExpiry.engineRuns = s.engineRuns := by
  unfold State.landingHoldExpiry
  split
  · dsimp only
    rw [State.releaseLanding_eq]
    rfl
  · rfl

/-- A pass-start hold's expiry. -/
theorem State.engineRuns_passStartHoldExpiry (s : State) : s.passStartHoldExpiry.engineRuns = s.engineRuns := by
  unfold State.passStartHoldExpiry
  split
  · split
    · rfl
    · rw [State.bindPass_eq]
      rfl
  · rfl

/-! ### Every act -/

/-- A command's body leaves TRANSPARENT quiet: STOP and RESTART make it so. -/
theorem State.BodyFlow.transparentIsQuiet (h : s.BodyFlow t) (hs : s.transparentIsQuiet) (held : s.bus.held = none) :
    t.transparentIsQuiet := by
  cases h with
  | still t h rest =>
    cases hr : s.engineRuns with
    | true => exact State.transparentIsQuiet_of_runs ((State.engineRuns_of_flow h).trans hr)
    | false => exact State.transparentIsQuiet_of_views h (rest hs hr) hs
  | started =>
    refine State.transparentIsQuiet_of_runs ?_
    show State.engineRuns (State.finish (State.begin s) .done) = true
    unfold State.begin
    dsimp only
    rw [State.beginWalk_eq]
    rfl
  | stopped =>
    refine fun _ => ⟨fun k => Vector.getElem_replicate _, rfl, rfl, held, rfl, rfl, rfl, rfl, rfl, rfl,
      fun p => Vector.getElem_replicate _⟩
  | restarted => exact fun _ => s.blockReset_quiet

/-- Every act leaves TRANSPARENT quiet. -/
theorem Move.transparentIsQuiet (h : Move s t) (hs : s.transparentIsQuiet) : t.transparentIsQuiet := by
  have views {t : State} (h : t.flow = s.flow ∧ t.rest = s.rest) : t.transparentIsQuiet :=
    State.transparentIsQuiet_of_views h.1 h.2 hs
  have commandStep {t : State} (h : t.flow = s.afterOtherStep.flow ∧ t.rest = s.afterOtherStep.rest) : t.transparentIsQuiet :=
    views ⟨h.1.trans s.flow_afterOtherStep, h.2⟩
  have runs {t : State} (hr : s.engineRuns = true) (h : t.engineRuns = s.engineRuns) : t.transparentIsQuiet :=
    State.transparentIsQuiet_of_runs (h.trans hr)
  have busy {P : Prop} (h : s.quiet → False) (hP : s.engineRuns = true → P) : P :=
    ((State.transparentIsQuiet_iff s).1 hs).elim hP fun hq => (h hq).elim
  cases h with
  | waits => exact hs
  | tick => exact views ⟨rfl, rfl⟩
  | power m =>
    cases m with
    | applied => exact State.transparentIsQuiet_of_views (s := s.discardWork) rfl rfl (State.discardWork_quiet hs)
    | stable straps =>
      show (s.powerStable straps).transparentIsQuiet
      unfold State.powerStable
      dsimp only
      split
      · exact State.transparentIsQuiet_of_views (s := s.discardWork) rfl rfl (State.discardWork_quiet hs)
      · exact fun _ => s.discardWork.blockReset_quiet
  | resetLow => exact State.transparentIsQuiet_of_views (s := s.discardWork) rfl rfl (State.discardWork_quiet hs)
  | resetHigh straps =>
    unfold State.resetReleased
    split
    · split
      · exact fun _ => s.blockReset_quiet
      · exact fun _ => s.blockReset_quiet
      · exact views ⟨rfl, rfl⟩
    · exact hs
  | write a d be => exact views ⟨rfl, rfl⟩
  | latch a l d be => exact views ⟨rfl, rfl⟩
  | strayGo a d be => exact views ⟨rfl, rfl⟩
  | completeSource a d be n =>
    rw [State.completeSource_eq]
    exact views ⟨rfl, rfl⟩
  | busy a d be code tag => exact views ⟨rfl, rfl⟩
  | command a d be code tag takes =>
    obtain ⟨⟨hheld, -⟩, -⟩ := takes
    exact (commandBody_flow _ code).transparentIsQuiet (views ⟨rfl, rfl⟩) hheld
  | answer w => exact views ⟨rfl, rfl⟩
  | claim =>
    unfold State.claim
    split <;> exact views ⟨rfl, rfl⟩
  | software k w a free hr =>
    refine runs hr ?_
    unfold State.softwareAccess
    rw [State.softwareHeader_eq]
    rfl
  | header p k w a free hr => exact runs hr (s.engineRuns_headerAccess p k w a)
  | landing p k a free hr => exact runs hr (s.engineRuns_land p k a)
  | strayLanding p k a free hr => exact runs hr (s.engineRuns_landStray p k a)
  | matched p k a free hr => exact runs hr (s.engineRuns_matchedAccess k a)
  | unmatched a => exact views ⟨rfl, rfl⟩
  | passStart p k a free hr => exact runs hr (s.engineRuns_beginPass p k a)
  | passWord p k w a free hr => exact runs hr (s.engineRuns_readPassWord p k w a)
  | pinStep => exact commandStep (State.views_pinStepBody _)
  | unpinStep => exact commandStep (State.views_unpinStepBody _)
  | readRouteStep => exact commandStep (State.views_readRouteStepBody _)
  | readWantedStep => exact commandStep (State.views_readWantedStepBody _)
  | releaseWantedStep => exact commandStep (State.views_releaseWantedStepBody _)
  | takeWaiting l ls live idle waiting =>
    refine busy (fun ⟨_, _, hwaiting, _⟩ => nomatch waiting.symm.trans hwaiting) fun hr => ?_
    exact runs hr (State.decision_runStages _ l).engineRuns
  | landingHoldExpiry =>
    refine ((State.transparentIsQuiet_iff s).1 hs).elim (fun hr => runs hr s.engineRuns_landingHoldExpiry) fun hq => ?_
    obtain ⟨-, -, -, hheld, -⟩ := id hq
    simp only [State.landingHoldExpiry, hheld]
    exact hs
  | learn l m perm granted work =>
    exact busy (fun ⟨_, hwork, _⟩ => nomatch work.symm.trans hwork) fun hr => runs hr (s.decision_learn l m perm).engineRuns
  | choose l m perm i first granted work =>
    exact busy (fun ⟨_, hwork, _⟩ => nomatch work.symm.trans hwork) fun hr => runs hr (s.decision_choose l m perm i).engineRuns
  | lookup l granted work =>
    exact busy (fun ⟨_, hwork, _⟩ => nomatch work.symm.trans hwork) fun hr => runs hr (s.decision_lookupForward l).engineRuns
  | passLookup p b granted awaits bound =>
    refine busy (fun ⟨_, _, _, _, _, _, _, _, _, _, hbinding⟩ => nomatch bound.symm.trans (hbinding p)) fun hr => ?_
    exact runs hr (State.engineRuns_answerLookup _ p b)
  | passStartHoldExpiry =>
    refine ((State.transparentIsQuiet_iff s).1 hs).elim (fun hr => runs hr s.engineRuns_passStartHoldExpiry) fun hq => ?_
    obtain ⟨-, -, -, hheld, -⟩ := id hq
    simp only [State.passStartHoldExpiry, hheld]
    exact hs
  | deadline k t live state =>
    refine busy (fun ⟨hslots, _⟩ => ?_) fun hr => runs hr rfl
    rw [hslots k] at state
    cases state
  | outcomeJob o rest live queue =>
    refine busy (fun ⟨_, _, _, _, hout, _⟩ => nomatch queue.symm.trans hout) fun hr => ?_
    exact runs hr (State.engineRuns_of_flow (State.flow_applyOutcome _ o))
  | sampleExpiry live t due =>
    refine busy (fun ⟨_, _, _, _, _, _, _, _, hexpiry, _⟩ => nomatch due.symm.trans hexpiry) fun hr => ?_
    exact runs hr (State.engineRuns_of_flow s.flow_sampleExpiry)
  | sweepBegin live request =>
    refine busy (fun ⟨_, _, _, _, _, hmetric, _⟩ => ?_) fun hr => runs hr rfl
    rw [hmetric] at request
    cases request
  | sweepVisit i live sweep =>
    refine busy (fun ⟨_, _, _, _, _, hmetric, _⟩ => ?_) fun hr => ?_
    · rw [hmetric] at sweep
      cases sweep
    · exact runs hr (State.engineRuns_of_flow ((State.flow_advanceSweep _ i).trans (s.flow_visitLink i)))
  | purgeWindow live t due =>
    refine busy (fun ⟨_, _, _, _, _, _, hwindow, _⟩ => nomatch due.symm.trans hwindow) fun hr => ?_
    exact runs hr (State.engineRuns_of_flow s.flow_purgeWindowExpiry)
  | walkerStep w granted walk =>
    refine busy (fun ⟨_, _, _, _, _, _, _, hwalk, _⟩ => nomatch walk.symm.trans hwalk) fun hr => ?_
    exact runs hr (State.engineRuns_of_flow ((State.flow_walkerStep _ w).trans s.flow_afterOtherStep))

/-- Settles O55: in TRANSPARENT no block has anything to do, START leaves TRANSPARENT, and STOP and the resets leave the part
quiet. -/
theorem transparentStaysQuiet : Obligations.TransparentStaysQuiet := fun _ _ hs h =>
  step_keeps (fun _ _ h => h) (fun _ _ hs h => h.transparentIsQuiet hs) hs h

/-- Settles O57: the tables keep the destinations unique, and TRANSPARENT, being quiet, has no work. -/
theorem destinationsStayUnique : Obligations.DestinationsStayUnique := by
  intro s t hquiet hs h
  rw [State.destinationsUnique_iff] at hs ⊢
  refine ⟨step_keeps_destinationsHeld hquiet hs.1 h, fun ht => ?_⟩
  obtain ⟨-, hwork, -⟩ := transparentStaysQuiet s t hquiet h ht
  exact hwork

end Sys2Proof.Machine
end

section
/-! PROOFS. Slot records, passes and bindings stay consistent (O58). -/

namespace Sys2Proof.Machine

variable {s t u : State}

/-! ### Well-formed records -/

/-- A bit of the mask of the enabled bytes. -/
theorem laneMask_getLsbD (be : Enables) {n : Nat} (hn : n < 32) : (laneMask be).getLsbD n = be.getLsbD (n / 8) := by
  have hlane (b : Bool) (m : Word) : (if b then m else 0).getLsbD n = (b && m.getLsbD n) := by cases b <;> simp
  have h3 : ∀ n < 32, (0xFF000000#32).getLsbD n = decide (n / 8 = 3) := by decide
  have h2 : ∀ n < 32, (0x00FF0000#32).getLsbD n = decide (n / 8 = 2) := by decide
  have h1 : ∀ n < 32, (0x0000FF00#32).getLsbD n = decide (n / 8 = 1) := by decide
  have h0 : ∀ n < 32, (0x000000FF#32).getLsbD n = decide (n / 8 = 0) := by decide
  unfold laneMask
  simp only [BitVec.getLsbD_or, hlane, h3 n hn, h2 n hn, h1 n hn, h0 n hn]
  rcases (by omega : n / 8 = 0 ∨ n / 8 = 1 ∨ n / 8 = 2 ∨ n / 8 = 3) with h | h | h | h <;> simp [h]

/-- A bit of merged words. -/
theorem mergeBytes_getLsbD (be : Enables) (old new : Word) {n : Nat} (hn : n < 32) :
    (mergeBytes be old new).getLsbD n = if be.getLsbD (n / 8) then new.getLsbD n else old.getLsbD n := by
  unfold mergeBytes
  simp only [BitVec.getLsbD_or, BitVec.getLsbD_and, BitVec.getLsbD_not, laneMask_getLsbD be hn, hn, decide_true]
  cases be.getLsbD (n / 8) <;> simp

/-- A byte of merged words, by its lowest bit. -/
theorem mergeBytes_byte (be : Enables) (old new : Word) {lo : Nat} (h8 : 8 ∣ lo) (hlo : lo < 32) :
    (mergeBytes be old new).extractLsb' lo 8 = if be.getLsbD (lo / 8) then new.extractLsb' lo 8 else old.extractLsb' lo 8 := by
  apply BitVec.eq_of_getLsbD_eq
  intro i hi
  have hdiv : (lo + i) / 8 = lo / 8 := by omega
  rw [BitVec.getLsbD_extractLsb', mergeBytes_getLsbD be old new (by omega), hdiv]
  cases be.getLsbD (lo / 8) <;> simp

/-- The budget byte of merged words is one of theirs. -/
theorem numField_mergeBytes_budget (be : Enables) (old new : Word) :
    numField (mergeBytes be old new) 16 8 = if be.getLsbD 2 then numField new 16 8 else numField old 16 8 := by
  unfold numField bitField
  rw [mergeBytes_byte be old new (by decide) (by decide)]
  split <;> rfl

/-- A budget is captured as 31 at most (R28). -/
theorem numField_clampBudget_le (d : Word) : numField (clampBudget d) 16 8 ≤ 31 := by
  unfold clampBudget
  split
  · have : bitField ((d &&& 0xFF00FFFF#32) ||| 0x001F0000#32) 16 8 = 0x1F#8 := by
      unfold bitField
      have hclear : ∀ i < 8, (0xFF00FFFF#32).getLsbD (16 + i) = false := by decide
      have hset : ∀ i < 8, (0x001F0000#32).getLsbD (16 + i) = (0x1F#8).getLsbD i := by decide
      refine BitVec.eq_of_getLsbD_eq fun i hi => ?_
      rw [BitVec.getLsbD_extractLsb', BitVec.getLsbD_or, BitVec.getLsbD_and, hclear i hi, hset i hi, decide_eq_true hi,
        Bool.and_false, Bool.false_or, Bool.true_and]
    unfold numField
    rw [this]
    decide
  · omega

/-- A header not yet written has budget 0. -/
theorem hdrBudget_blank : hdrBudget (Vector.replicate 5 0) ≤ 31 := by decide

/-- Capture keeps the budget within 31. -/
theorem hdrBudget_captureWords {ws : HeaderWords} (h : hdrBudget ws ≤ 31) (w : HeaderIx) (d : Word) (be : Enables) :
    hdrBudget (captureWords ws w d be) ≤ 31 := by
  unfold hdrBudget captureWords at *
  dsimp only
  by_cases hw : w = 1
  · subst hw
    rw [if_pos rfl]
    have hset : (ws.set (1 : HeaderIx).val (mergeBytes be ws[(1 : HeaderIx).val] (clampBudget d)))[1] =
        mergeBytes be ws[1] (clampBudget d) := Vector.getElem_set_self _
    rw [hset, numField_mergeBytes_budget]
    split
    · exact numField_clampBudget_le d
    · exact h
  · have hne : w.val ≠ 1 := fun h => hw (Fin.ext h)
    rw [Vector.getElem_set_ne _ _ hne]
    exact h

/-- A VACANT record is well formed. -/
theorem SlotRecord.vacant_wellFormed : SlotRecord.vacant.wellFormed := by
  refine ⟨fun _ => rfl, ?_, ?_, fun _ => rfl, ?_, ?_, fun h => (nomatch h), ?_⟩ <;> decide

/-- Capture keeps a record well formed that is not VACANT. -/
theorem SlotRecord.capture_wellFormed {r : SlotRecord} (h : r.wellFormed) (hv : r.state ≠ .vacant) (w : HeaderIx) (d : Word)
    (be : Enables) : (r.capture w d be).wellFormed := by
  obtain ⟨-, hsource, hport, hprogress, hdeadline, hrefusal, hverdict, hbudget⟩ := h
  exact ⟨fun h => absurd h hv, hsource, hport, hprogress, hdeadline, hrefusal, hverdict, hdrBudget_captureWords hbudget w d be⟩

/-- Cleared headers keep a record well formed that is not VACANT. -/
theorem SlotRecord.cleared_wellFormed {r : SlotRecord} (h : r.wellFormed) (hv : r.state ≠ .vacant) : r.cleared.wellFormed := by
  obtain ⟨-, hsource, hport, hprogress, hdeadline, hrefusal, hverdict, -⟩ := h
  exact ⟨fun h => absurd h hv, hsource, hport, hprogress, hdeadline, hrefusal, hverdict, hdrBudget_blank⟩

/-- The record of a new receive pass is well formed. -/
theorem SlotRecord.newFill_wellFormed (p : Port) : (SlotRecord.newFill p).wellFormed := by
  refine ⟨fun h => (nomatch h), ⟨fun _ => nofun, fun _ => rfl⟩, ⟨fun _ => .inl rfl, fun _ => rfl⟩, fun _ => rfl,
    ⟨fun h => (nomatch h), fun h => (nomatch h)⟩, ⟨fun h => (nomatch h), fun h => (nomatch h)⟩, fun _ => rfl, hdrBudget_blank⟩

/-- The record of a stray landing is well formed. -/
theorem SlotRecord.stray_wellFormed (p : Port) : (SlotRecord.stray p).wellFormed := by
  refine ⟨fun h => (nomatch h), ⟨fun _ => nofun, fun _ => rfl⟩, ⟨fun h => (nomatch h), ?_⟩, fun _ => rfl,
    ⟨fun h => (nomatch h), fun h => (nomatch h)⟩, ⟨fun h => (nomatch h), fun h => (nomatch h)⟩, fun h => (nomatch h), hdrBudget_blank⟩
  rintro (h | h | h) <;> cases h

/-- The record of a slot that software begins to compose is well formed. -/
theorem SlotRecord.newComposed_wellFormed : SlotRecord.newComposed.wellFormed := by
  refine ⟨fun h => (nomatch h), ⟨fun _ => nofun, fun _ => rfl⟩, ⟨fun h => (nomatch h), ?_⟩, fun _ => rfl,
    ⟨fun h => (nomatch h), fun h => (nomatch h)⟩, ⟨fun h => (nomatch h), fun h => (nomatch h)⟩, fun h => (nomatch h), hdrBudget_blank⟩
  rintro (h | h | h) <;> cases h

/-- A recorded verdict keeps a record well formed that a frame has landed on. -/
theorem SlotRecord.recorded_wellFormed {r : SlotRecord} (h : r.wellFormed) (hl : r.state.landedOn = true) {v : Verdict}
    (formed : v.formed) : SlotRecord.wellFormed { r with verdict := v.code, verdictLink := v.link, refusal := v.reason } := by
  obtain ⟨-, hsource, hport, hprogress, hdeadline, -, -, hbudget⟩ := h
  refine ⟨fun h => ?_, hsource, hport, hprogress, hdeadline, formed, fun h => ?_, hbudget⟩
  · rw [show r.state = _ from h] at hl
    cases hl
  · rw [show r.state = _ from h] at hl
    cases hl

/-- A record whose pass has ended is well formed. -/
theorem SlotRecord.passEnded_wellFormed {r : SlotRecord} (h : r.wellFormed) (hs : r.state = .inSend) (t : Nat) :
    (r.passEnded t).wellFormed := by
  obtain ⟨-, hsource, hport, -, -, hrefusal, -, hbudget⟩ := h
  exact ⟨fun h => (nomatch h), ⟨fun _ => nofun, fun _ => hsource.2 (by rw [hs]; nofun)⟩,
    ⟨fun _ => .inr (.inr rfl), fun _ => hport.2 (.inr (.inl hs))⟩, fun _ => rfl, ⟨fun _ => rfl, fun _ => rfl⟩, hrefusal,
    fun h => (nomatch h), hbudget⟩

/-- The state in which a record rests is LANDED or COMPOSED. -/
theorem SlotRecord.restState_cases (r : SlotRecord) : r.restState = .landed ∨ r.restState = .composed := by
  unfold SlotRecord.restState
  split <;> simp

/-- A record whose wait is over is well formed. -/
theorem SlotRecord.waitOver_wellFormed {r : SlotRecord} (h : r.wellFormed) (hs : r.state = .awaitingOutcome) :
    r.waitOver.wellFormed := by
  obtain ⟨-, hsource, -, hprogress, -, hrefusal, -, hbudget⟩ := h
  have hrest : r.waitOver.state = .landed ∨ r.waitOver.state = .composed := r.restState_cases
  have hsome : r.source.isSome = true := hsource.2 (by rw [hs]; nofun)
  refine ⟨fun h => ?_, ⟨fun _ h => ?_, fun _ => hsome⟩, ⟨fun h => (nomatch h), fun h => ?_⟩, fun _ => hprogress (by rw [hs]; nofun),
    ⟨fun h => (nomatch h), fun h => ?_⟩, hrefusal, fun h => ?_, hbudget⟩
  all_goals rcases hrest with hr | hr <;> simp [hr] at h

/-- The record of a pass that begins is well formed. -/
theorem SlotRecord.inSend_wellFormed {r : SlotRecord} (h : r.wellFormed) (hs : r.state.startsPass = true) (p : Port) :
    SlotRecord.wellFormed
      { r with state := .inSend, passPort := some p, progress := 0, deadline := none, sentLink := none } := by
  obtain ⟨-, hsource, -, -, -, hrefusal, -, hbudget⟩ := h
  have hne : r.state ≠ .vacant := by
    intro h
    rw [h] at hs
    cases hs
  exact ⟨fun h => (nomatch h), ⟨fun _ => nofun, fun _ => hsource.2 hne⟩, ⟨fun _ => .inr (.inl rfl), fun _ => rfl⟩,
    fun _ => rfl, ⟨fun h => (nomatch h), fun h => (nomatch h)⟩, hrefusal, fun h => (nomatch h), hbudget⟩

/-- The record of a landed frame is well formed. -/
theorem SlotRecord.landed_wellFormed {r : SlotRecord} (h : r.wellFormed) (hs : r.state = .filling) (p : Port) :
    SlotRecord.wellFormed { r with state := .landed, landingPort := some p, passPort := none, verdict := .none } := by
  obtain ⟨-, hsource, -, hprogress, hdeadline, hrefusal, hverdict, hbudget⟩ := h
  have hnone : r.deadline.isSome ≠ true := fun h => nomatch hs.symm.trans (hdeadline.1 h)
  have hreason : r.refusal.isSome ≠ true := fun h => nomatch (hverdict hs).symm.trans (hrefusal.1 h)
  refine ⟨fun h => (nomatch h), ⟨fun _ => nofun, fun _ => hsource.2 (by rw [hs]; nofun)⟩, ⟨fun h => (nomatch h), ?_⟩,
    fun _ => hprogress (by rw [hs]; nofun), ⟨fun h => absurd h hnone, fun h => (nomatch h)⟩,
    ⟨fun h => absurd h hreason, fun h => (nomatch h)⟩, fun h => (nomatch h), hbudget⟩
  rintro (h | h | h) <;> cases h

/-! ### Passes -/

/-- The binding of a port is that of a slot. -/
def State.bound (s : State) (p : Port) (k : SlotNo) : Prop := ∃ b ∈ s.binding p, b.slot = k

/-- A landing still being decided owns the record of a slot. -/
def State.landsOn (s : State) (k : SlotNo) : Prop := ∃ l ∈ s.landings, l.current = true ∧ l.slot = k

/-- A port sends a slot. -/
def SlotRecord.sentBy (r : SlotRecord) (p : Port) : Prop := r.state = .inSend ∧ r.passPort = some p

/-- Passes are owned, in these words. -/
theorem State.passesOwned_iff (s : State) :
    s.passesOwned ↔
      (∀ k, (s.slot k).wellFormed) ∧
      (∀ j k, (s.slot j).state = .filling → (s.slot k).state = .filling → (s.slot j).passPort = (s.slot k).passPort → j = k) ∧
      (∀ p k, (s.slot k).sentBy p ↔ s.bound p k) ∧ ∀ k, s.landsOn k → (s.slot k).state.landedOn = true := by
  refine and_congr_right fun _ => and_congr_right fun _ => and_congr_right fun _ => ⟨?_, ?_⟩
  · rintro h k ⟨l, hl, hcur, rfl⟩
    exact h l hl hcur
  · exact fun h l hl hcur => h l.slot ⟨l, hl, hcur, rfl⟩

/-- Bound slots of a view. -/
theorem State.bound_of_binding {p : Port} (h : t.binding p = s.binding p) (k : SlotNo) : t.bound p k ↔ s.bound p k := by
  unfold State.bound
  rw [h]

/-- Owned records of the same landings. -/
theorem State.landsOn_of_landings (h : t.landings = s.landings) (k : SlotNo) : t.landsOn k ↔ s.landsOn k := by
  unfold State.landsOn
  rw [h]

/-- Owned passes have well-formed records. -/
theorem State.passesOwned.formed (hs : s.passesOwned) (k : SlotNo) : (s.slot k).wellFormed := (s.passesOwned_iff.1 hs).1 k

/-- A port has at most one slot FILLING. -/
theorem State.passesOwned.fills (hs : s.passesOwned) {j k : SlotNo} (hj : (s.slot j).state = .filling)
    (hk : (s.slot k).state = .filling) (h : (s.slot j).passPort = (s.slot k).passPort) : j = k := hs.2.1 j k hj hk h

/-- A port sends the slot that its binding is of. -/
theorem State.passesOwned.sent_iff (hs : s.passesOwned) (p : Port) (k : SlotNo) : (s.slot k).sentBy p ↔ s.bound p k := by
  obtain ⟨-, -, h, -⟩ := s.passesOwned_iff.1 hs
  exact h p k

/-- A slot whose record a landing owns holds a frame. -/
theorem State.passesOwned.landed (hs : s.passesOwned) {k : SlotNo} (h : s.landsOn k) : (s.slot k).state.landedOn = true := by
  obtain ⟨-, -, -, hl⟩ := s.passesOwned_iff.1 hs
  exact hl k h

/-- What leaves the passes' view keeps the passes owned. -/
theorem State.passesOwned_of_flow (h : t.flow = s.flow) (hs : s.passesOwned) : t.passesOwned := by
  rw [State.passesOwned_iff] at hs ⊢
  simpa only [State.slot_of_flow h, State.bound_of_binding (State.binding_of_flow h _),
    State.landsOn_of_landings (State.landings_of_flow h)] using hs

/-- One record updated: the passes stay owned when the record is well formed, fills for no port that fills another slot, and
bindings and landings match it. -/
theorem State.passesOwned_setSlot {k : SlotNo} {r : SlotRecord} (hs : s.passesOwned)
    (slots : t.slots = s.slots.set k.val r) (formed : r.wellFormed)
    (fills : r.state = .filling → ∀ j, j ≠ k → (s.slot j).state = .filling → (s.slot j).passPort ≠ r.passPort)
    (others : ∀ p j, j ≠ k → (t.bound p j ↔ s.bound p j)) (own : ∀ p, r.sentBy p ↔ t.bound p k)
    (landings : ∀ j, t.landsOn j → (j = k → r.state.landedOn = true) ∧ (j ≠ k → s.landsOn j)) : t.passesOwned := by
  rw [State.passesOwned_iff] at hs ⊢
  obtain ⟨hformed, hfills, hbound, hlands⟩ := hs
  have hsame : t.slot k = r := by
    simp only [State.slot, slots, Vector.getElem_set_self]
  have hother (j : SlotNo) (hj : j ≠ k) : t.slot j = s.slot j := by
    have : k.val ≠ j.val := fun e => hj (Fin.ext e.symm)
    simp only [State.slot, slots, Vector.getElem_set_ne _ _ this]
  refine ⟨fun j => ?_, fun i j hi hj hij => ?_, fun p j => ?_, fun j hj => ?_⟩
  · by_cases h : j = k
    · rw [h, hsame]; exact formed
    · rw [hother j h]; exact hformed j
  · by_cases hik : i = k <;> by_cases hjk : j = k
    · rw [hik, hjk]
    · rw [hik, hsame] at hi hij
      rw [hother j hjk] at hj hij
      exact absurd hij.symm (fills hi j hjk hj)
    · rw [hjk, hsame] at hj hij
      rw [hother i hik] at hi hij
      exact absurd hij (fills hj i hik hi)
    · rw [hother i hik] at hi hij
      rw [hother j hjk] at hj hij
      exact hfills i j hi hj hij
  · by_cases h : j = k
    · rw [h, hsame]; exact own p
    · rw [hother j h, others p j h]; exact hbound p j
  · obtain ⟨hown, hold⟩ := landings j hj
    by_cases h : j = k
    · rw [h, hsame]; exact hown h
    · rw [hother j h]; exact hlands j (hold h)

/-- A record updated in the state it is in. -/
theorem State.passesOwned_keep {k : SlotNo} {r : SlotRecord} (hs : s.passesOwned) (slots : t.slots = s.slots.set k.val r)
    (formed : r.wellFormed) (state : r.state = (s.slot k).state) (port : r.passPort = (s.slot k).passPort)
    (bound : ∀ p j, t.bound p j ↔ s.bound p j) (landings : ∀ j, t.landsOn j → s.landsOn j) : t.passesOwned := by
  refine State.passesOwned_setSlot hs slots formed (fun hr j hj hfill hport => ?_) (fun p j _ => bound p j) (fun p => ?_)
    fun j hj => ⟨?_, fun _ => landings j hj⟩
  · exact hj (hs.fills hfill (state ▸ hr) (hport.trans port))
  · rw [bound, ← hs.sent_iff]
    unfold SlotRecord.sentBy
    rw [state, port]
  · rintro rfl
    rw [state]
    exact hs.landed (landings j hj)

/-- A record updated that is not sent, before or after, and not filled after. -/
theorem State.passesOwned_unsent {k : SlotNo} {r : SlotRecord} (hs : s.passesOwned) (slots : t.slots = s.slots.set k.val r)
    (formed : r.wellFormed) (was : (s.slot k).state ≠ .inSend) (is : r.state ≠ .inSend) (fill : r.state ≠ .filling)
    (bound : ∀ p j, t.bound p j ↔ s.bound p j)
    (landings : ∀ j, t.landsOn j → (j = k → r.state.landedOn = true) ∧ (j ≠ k → s.landsOn j)) : t.passesOwned := by
  refine State.passesOwned_setSlot hs slots formed (fun h => absurd h fill) (fun p j _ => bound p j) (fun p => ?_) landings
  rw [bound, ← hs.sent_iff]
  exact ⟨fun h => absurd h.1 is, fun h => absurd h.1 was⟩

/-! ### Verdicts -/

/-- What a view with other landings owns. -/
theorem State.passesOwned_of_landings (slots : t.slots = s.slots) (bindings : t.overlay.bindings = s.overlay.bindings)
    (landings : ∀ j, t.landsOn j → (s.slot j).state.landedOn = true) (hs : s.passesOwned) : t.passesOwned := by
  rw [State.passesOwned_iff] at hs ⊢
  obtain ⟨hformed, hfills, hbound, -⟩ := hs
  have hslot (k : SlotNo) : t.slot k = s.slot k := by simp only [State.slot, slots]
  have hbinding (p : Port) : t.binding p = s.binding p := by simp only [State.binding, bindings]
  simp only [hslot, State.bound_of_binding (hbinding _)]
  exact ⟨hformed, hfills, hbound, landings⟩

/-- A recorded verdict. -/
theorem State.passesOwned_recordVerdict (hs : s.passesOwned) {l : Landing} {v : Verdict}
    (landed : l.current = true → (s.slot l.slot).state.landedOn = true) (formed : v.formed) :
    (s.recordVerdict l v).passesOwned := by
  unfold State.recordVerdict
  split
  next hcur =>
    exact State.passesOwned_keep hs rfl (SlotRecord.recorded_wellFormed (hs.formed _) (landed hcur) formed) rfl
      rfl (fun _ _ => Iff.rfl) fun _ h => h
  next => exact hs

/-- A landing's release leaves the slots, the bindings and the landings. -/
theorem State.passesOwned_releaseLanding (hs : s.passesOwned) (b : Byte) : (s.releaseLanding b).passesOwned := by
  rw [State.releaseLanding_eq]
  exact hs

/-- A decided verdict. -/
theorem State.passesOwned_announce (hs : s.passesOwned) {l : Landing} {v : Verdict}
    (landed : l.current = true → (s.slot l.slot).state.landedOn = true) (formed : v.formed) : (s.announce l v).passesOwned := by
  have hcount : (s.countAll (verdictCounters v.code v.reason)).passesOwned := State.passesOwned_of_flow (s.flow_countAll _) hs
  have hrecord := State.passesOwned_recordVerdict (l := l) hcount
    (by rw [State.slot_of_flow (s.flow_countAll _)]; exact landed) formed
  unfold State.announce
  dsimp only
  split
  · exact State.passesOwned_releaseLanding hrecord _
  · exact hrecord

/-- The landings of a state whose work is a landing's. -/
theorem State.landsOn_await {l : Landing} {ph : WorkPhase} {k : SlotNo} (h : (s.await l ph).landsOn k) :
    (l.current = true ∧ l.slot = k) ∨ s.landsOn k := by
  obtain ⟨l', hl, hcur, hk⟩ := h
  rcases List.mem_cons.1 (show l' ∈ l :: s.verdicts.waiting from hl) with rfl | hl
  · exact .inl ⟨hcur, hk⟩
  · exact .inr ⟨l', List.mem_append_right _ hl, hcur, hk⟩

/-- A decision on a landing that owns its record only while the slot holds its frame. -/
theorem State.Decision.passesOwned {l : Landing} (h : s.Decision l t) (hs : s.passesOwned)
    (landed : l.current = true → (s.slot l.slot).state.landedOn = true) : t.passesOwned := by
  cases h with
  | concluded u v h formed =>
    have hu := State.passesOwned_of_flow h hs
    have hwork : State.passesOwned { u with verdicts := { u.verdicts with work := none } } := by
      refine State.passesOwned_of_landings (s := u) rfl rfl (fun j hj => ?_) hu
      obtain ⟨l', hl', hrest⟩ := hj
      exact hu.landed ⟨l', List.mem_append_right _ hl', hrest⟩
    refine State.passesOwned_announce hwork ?_ formed
    show l.current = true → (u.slot l.slot).state.landedOn = true
    rw [State.slot_of_flow h]
    exact landed
  | awaits u ph h =>
    have hu := State.passesOwned_of_flow h hs
    refine State.passesOwned_of_landings (s := u) rfl rfl (fun j hj => ?_) hu
    rcases State.landsOn_await hj with ⟨hcur, rfl⟩ | hj
    · rw [State.slot_of_flow h]
      exact landed hcur
    · exact hu.landed hj

end Sys2Proof.Machine
end

section
/-! PROOFS. Every act leaves the passes owned (O58). -/

namespace Sys2Proof.Machine

variable {s t u : State}

/-! ### What a slot was doing ends -/

/-- Bound slots depend on the bindings alone. -/
theorem State.bound_of_bindings (h : t.overlay.bindings = s.overlay.bindings) (p : Port) (k : SlotNo) :
    t.bound p k ↔ s.bound p k := by
  unfold State.bound State.binding
  rw [h]

/-- Owned records depend on the Verdict Unit alone. -/
theorem State.landsOn_of_verdicts (h : t.verdicts = s.verdicts) (k : SlotNo) : t.landsOn k ↔ s.landsOn k := by
  unfold State.landsOn State.landings
  rw [h]

/-- A port's binding is of one slot. -/
theorem State.bound_unique {p : Port} {j k : SlotNo} (hj : s.bound p j) (hk : s.bound p k) : j = k := by
  obtain ⟨b, hb, rfl⟩ := hj
  obtain ⟨c, hc, rfl⟩ := hk
  rw [Option.mem_def.1 hb] at hc
  cases hc
  rfl

/-- The bindings without that of the pass on slot `k`: what the end of what it was doing leaves (R148). -/
def State.bindingsWithout (s : State) (k : SlotNo) : Vector (Option Binding) 3 :=
  if (s.slot k).state = .inSend then (s.dropPassBinding (s.slot k).passPort).overlay.bindings else s.overlay.bindings

/-- A count leaves the bindings that a pass drops. -/
theorem State.dropPassBinding_count (s : State) (c : Counter) (p : Option Port) :
    ((s.count c).dropPassBinding p).overlay.bindings = (s.dropPassBinding p).overlay.bindings := by
  cases p <;> rfl

/-- A new receive pass ends the pass on its slot. -/
theorem State.endForFill_bindings (s : State) (k : SlotNo) : (s.endForFill k).overlay.bindings = s.bindingsWithout k := by
  unfold State.endForFill State.bindingsWithout
  cases h : (s.slot k).state with
  | inSend => simp only [h, if_true, State.dropPassBinding_count]
  | _ => simp only [h, reduceCtorEq, if_false, State.count_overlay]

/-- A new transmit pass ends the pass on its slot. -/
theorem State.endForSend_bindings (s : State) (k : SlotNo) : (s.endForSend k).overlay.bindings = s.bindingsWithout k := by
  unfold State.endForSend State.bindingsWithout
  cases h : (s.slot k).state with
  | inSend => simp only [h, if_true, State.dropPassBinding_count]
  | _ => simp only [h, reduceCtorEq, if_false, State.count_overlay]

/-- The bindings without that of a slot are those of the other slots. -/
theorem State.passesOwned.bound_without (hs : s.passesOwned) {k : SlotNo} (h : t.overlay.bindings = s.bindingsWithout k)
    (p : Port) (j : SlotNo) : t.bound p j ↔ s.bound p j ∧ j ≠ k := by
  unfold State.bindingsWithout at h
  split at h
  next hk =>
    cases hq : (s.slot k).passPort with
    | none =>
      obtain ⟨-, -, hport, -⟩ := hs.formed k
      have hsome := hport.2 (.inr (.inl hk))
      rw [hq] at hsome
      cases hsome
    | some q =>
      rw [hq] at h
      have hkq : s.bound q k := (hs.sent_iff q k).1 ⟨hk, hq⟩
      rw [State.bound_of_bindings (s := s.dropBinding q) h]
      by_cases hpq : p = q
      · subst hpq
        constructor
        · rintro ⟨b, hb, -⟩
          rw [State.binding_dropBinding_same] at hb
          cases hb
        · rintro ⟨hj, hne⟩
          exact absurd (State.bound_unique hj hkq) hne
      · rw [State.bound_of_binding (State.binding_dropBinding_other s hpq)]
        refine ⟨fun hj => ⟨hj, ?_⟩, fun hj => hj.1⟩
        rintro rfl
        have hport := ((hs.sent_iff p j).2 hj).2
        exact hpq (Option.some.inj (hport.symm.trans hq))
  next hk =>
    rw [State.bound_of_bindings h]
    refine ⟨fun hj => ⟨hj, ?_⟩, fun hj => hj.1⟩
    rintro rfl
    exact hk ((hs.sent_iff p j).2 hj).1

/-- The landings when a record is disowned. -/
theorem State.disownRecord_landings (s : State) (k : SlotNo) :
    (s.disownRecord k).landings = s.landings.map fun l => l.unless k := by
  simp only [State.landings, State.disownRecord, List.map_append, Option.map_map]
  congr 1
  cases s.verdicts.work <;> rfl

/-- A record disowned is owned by no landing. -/
theorem State.landsOn_disownRecord {k j : SlotNo} (h : (s.disownRecord k).landsOn j) : j ≠ k ∧ s.landsOn j := by
  obtain ⟨l', hl', hcur, hj⟩ := h
  rw [State.disownRecord_landings] at hl'
  obtain ⟨l, hl, rfl⟩ := List.mem_map.1 hl'
  unfold Landing.unless at hcur hj
  split at hcur
  next => cases hcur
  next hne =>
    rw [if_neg hne] at hj
    exact ⟨fun h => hne (hj.trans h), l, hl, hcur, hj⟩

/-- The search for another FILLING slot depends on the slots alone. -/
theorem State.abandonOther_slots_congr (h : t.slots = s.slots) (p : Port) (k : SlotNo) :
    (t.abandonOther p k).slots = (s.abandonOther p k).slots := by
  have hfind : t.otherFilling p k = s.otherFilling p k := by
    unfold State.otherFilling State.slot
    rw [h]
  cases hs : s.otherFilling p k with
  | none => rw [State.abandonOther_none (hfind.trans hs), State.abandonOther_none hs, h]
  | some i =>
    rw [State.abandonOther_some (hfind.trans hs), State.abandonOther_some hs]
    simp only [State.count_slots, State.setSlot_slots, h]

/-- What the search for another FILLING slot finds. -/
theorem State.otherFilling_some {p : Port} {k i : SlotNo} (h : s.otherFilling p k = some i) :
    i ≠ k ∧ (s.slot i).state = .filling ∧ (s.slot i).passPort = some p := by
  have := List.find?_some h
  simp only [Bool.and_eq_true, bne_iff_ne, ne_eq, beq_iff_eq] at this
  exact ⟨this.1.1, this.1.2, this.2⟩

/-- What the search for another FILLING slot does not find. -/
theorem State.otherFilling_none {p : Port} {k : SlotNo} (h : s.otherFilling p k = none) {j : SlotNo} (hj : j ≠ k)
    (hfill : (s.slot j).state = .filling) : (s.slot j).passPort ≠ some p := by
  have := List.find?_eq_none.mp h j (List.mem_finRange j)
  simpa [hj, hfill] using this

/-- The port's fill of another slot is abandoned: the passes stay owned, and the port fills no other slot (R10). -/
theorem State.passesOwned.abandonOther (hs : s.passesOwned) (p : Port) (k : SlotNo) :
    (s.abandonOther p k).passesOwned ∧
    ∀ j, j ≠ k → ((s.abandonOther p k).slot j).state = .filling → ((s.abandonOther p k).slot j).passPort ≠ some p := by
  cases h : s.otherFilling p k with
  | none =>
    rw [State.abandonOther_none h]
    exact ⟨hs, fun j hj hfill => State.otherFilling_none h hj hfill⟩
  | some i =>
    rw [State.abandonOther_some h]
    obtain ⟨-, hfill, hport⟩ := State.otherFilling_some h
    refine ⟨State.passesOwned_unsent (k := i) hs rfl SlotRecord.vacant_wellFormed (by rw [hfill]; nofun) nofun nofun
      (fun _ _ => Iff.rfl) (fun j hj => ⟨?_, fun _ => hj⟩), fun j _ hj hjp => ?_⟩
    · rintro rfl
      have := hs.landed (k := j) hj
      rw [hfill] at this
      cases this
    · by_cases hji : j = i
      · subst hji
        have hsame : (s.setSlot j SlotRecord.vacant).slot j = SlotRecord.vacant := State.slot_setSlot_same _ _ _
        exact nomatch (congrArg SlotRecord.state hsame).symm.trans hj
      · have hother : (s.setSlot i SlotRecord.vacant).slot j = s.slot j := State.slot_setSlot_other _ _ hji
        have hj' : (s.slot j).state = .filling := (congrArg SlotRecord.state hother).symm.trans hj
        have hp' : (s.slot j).passPort = some p := (congrArg SlotRecord.passPort hother).symm.trans hjp
        exact hji (hs.fills hj' hfill (hp'.trans hport.symm))

/-! ### Writes to slots -/

/-- A new receive pass begins on a slot (R9, R10). -/
theorem State.passesOwned_newFill (hs : s.passesOwned) (p : Port) (k : SlotNo) (w : HeaderIx) (d : Word) (be : Enables) :
    ((((s.endForFill k).abandonOther p k).disownRecord k).setSlot k ((SlotRecord.newFill p).capture w d be)).passesOwned := by
  obtain ⟨hbase, hfills⟩ := hs.abandonOther p k
  have hslots : ((s.endForFill k).abandonOther p k).slots = (s.abandonOther p k).slots :=
    State.abandonOther_slots_congr (by rw [State.endForFill_eq]) p k
  have hbound (q : Port) (j : SlotNo) : ((s.endForFill k).abandonOther p k).bound q j ↔ s.bound q j ∧ j ≠ k := by
    rw [State.bound_of_bindings (s := s.endForFill k) (by rw [State.abandonOther_eq]),
      hs.bound_without (State.endForFill_bindings s k)]
  have hbase' (q : Port) (j : SlotNo) : (s.abandonOther p k).bound q j ↔ s.bound q j :=
    State.bound_of_bindings (by rw [State.abandonOther_eq]) q j
  have hlands (j : SlotNo) (hj : ((s.endForFill k).abandonOther p k).landsOn j) : (s.abandonOther p k).landsOn j := by
    rw [State.landsOn_of_verdicts (s := s) (by rw [State.abandonOther_eq, State.endForFill_eq])] at hj
    rwa [State.landsOn_of_verdicts (s := s) (by rw [State.abandonOther_eq])]
  generalize (s.endForFill k).abandonOther p k = u at hslots hbound hlands ⊢
  generalize s.abandonOther p k = v at hbase hfills hslots hbase' hlands
  refine State.passesOwned_setSlot (k := k) (r := (SlotRecord.newFill p).capture w d be) hbase ?_
    (SlotRecord.capture_wellFormed (SlotRecord.newFill_wellFormed p) nofun w d be) (fun _ j hj hfill => hfills j hj hfill)
    (fun q j hj => ?_) (fun q => ⟨fun h => (nomatch h.1), fun h => ?_⟩) fun j hj => ?_
  · show u.slots.set k.val _ = _
    rw [hslots]
  · rw [hbase', ← and_iff_left (a := s.bound q j) hj]
    exact hbound q j
  · exact absurd rfl ((hbound q k).1 h).2
  · obtain ⟨hne, hj⟩ := State.landsOn_disownRecord (s := u) (k := k) hj
    exact ⟨fun h => absurd h hne, fun _ => hlands j hj⟩

/-- A receive header write (R9, R10). -/
theorem State.passesOwned_receiveHeader (hs : s.passesOwned) (p : Port) (k : SlotNo) (w : HeaderIx) (d : Word) (be : Enables) :
    (s.receiveHeader p k w d be).passesOwned := by
  unfold State.receiveHeader
  dsimp only
  split
  next hfill =>
    have hstate : (s.slot k).state = .filling := by
      simp only [SlotRecord.fillingBy, Bool.and_eq_true, beq_iff_eq] at hfill
      exact hfill.1
    have hne : (s.slot k).state ≠ .vacant := by rw [hstate]; nofun
    have hcleared : SlotRecord.wellFormed (if w = 0 then (s.slot k).cleared else s.slot k) ∧
        (if w = 0 then (s.slot k).cleared else s.slot k).state = (s.slot k).state ∧
        (if w = 0 then (s.slot k).cleared else s.slot k).passPort = (s.slot k).passPort := by
      split
      · exact ⟨SlotRecord.cleared_wellFormed (hs.formed k) hne, rfl, rfl⟩
      · exact ⟨hs.formed k, rfl, rfl⟩
    obtain ⟨hformed, hst, hport⟩ := hcleared
    exact State.passesOwned_keep hs rfl (SlotRecord.capture_wellFormed hformed (hst ▸ hne) w d be) hst hport
      (fun _ _ => Iff.rfl) fun _ h => h
  next => exact State.passesOwned_newFill hs p k w d be

/-- A software header write (R14). -/
theorem State.passesOwned_softwareHeader (hs : s.passesOwned) (k : SlotNo) (w : HeaderIx) (d : Word) (be : Enables) :
    (s.softwareHeader k w d be).passesOwned := by
  have hformed := hs.formed k
  have hcapture (hne : (s.slot k).state ≠ .vacant) := SlotRecord.capture_wellFormed hformed hne w d be
  have composed (hst : (s.slot k).state = .landed ∨ (s.slot k).state = .composed) :
      State.passesOwned (s.setSlot k { (s.slot k).capture w d be with source := some .composed, state := .composed }) := by
    have hne : (s.slot k).state ≠ .vacant := by rcases hst with h | h <;> rw [h] <;> nofun
    obtain ⟨-, -, hport, hprogress, hdeadline, hrefusal, -, hbudget⟩ := hcapture hne
    have hport' : ¬(s.slot k).passPort.isSome = true := fun h => by
      rcases hst with h' | h' <;> rcases hport.1 h with h | h | h <;> exact nomatch h'.symm.trans h
    have hdeadline' : ¬(s.slot k).deadline.isSome = true := fun h => by
      rcases hst with h' | h' <;> exact nomatch h'.symm.trans (hdeadline.1 h)
    refine State.passesOwned_unsent hs rfl ⟨fun h => (nomatch h), ⟨fun _ => nofun, fun _ => rfl⟩, ⟨fun h => absurd h hport', ?_⟩,
      fun _ => hprogress ?_, ⟨fun h => absurd h hdeadline', fun h => (nomatch h)⟩, hrefusal, fun h => (nomatch h), hbudget⟩ ?_
      nofun nofun (fun _ _ => Iff.rfl) fun j hj => ⟨fun _ => rfl, fun _ => hj⟩
    · rintro (h | h | h) <;> cases h
    · show (s.slot k).state ≠ .inSend
      rcases hst with h | h <;> rw [h] <;> nofun
    · rcases hst with h | h <;> rw [h] <;> nofun
  have sent (hne : (s.slot k).state ≠ .vacant) :
      State.passesOwned (s.setSlot k { (s.slot k).capture w d be with source := some .composed }) := by
    obtain ⟨-, -, hport, hprogress, hdeadline, hrefusal, hverdict, hbudget⟩ := hcapture hne
    exact State.passesOwned_keep hs rfl ⟨fun h => absurd h hne, ⟨fun _ => hne, fun _ => rfl⟩, hport, hprogress, hdeadline,
      hrefusal, hverdict, hbudget⟩ rfl rfl (fun _ _ => Iff.rfl) fun _ h => h
  unfold State.softwareHeader
  dsimp only
  split
  next => exact hs
  next hst =>
    refine State.passesOwned_unsent hs rfl (SlotRecord.capture_wellFormed SlotRecord.newComposed_wellFormed nofun w d be)
      (by rw [hst]; nofun) nofun nofun (fun _ _ => Iff.rfl) fun j hj => ⟨fun _ => rfl, fun _ => hj⟩
  next hst => exact composed (.inl hst)
  next hst => exact composed (.inr hst)
  next hst => exact sent (by rw [hst]; nofun)
  next hst => exact sent (by rw [hst]; nofun)

/-- A record whose wait for an outcome is over (R19, R20). -/
theorem State.passesOwned_waitOver (hs : s.passesOwned) {k : SlotNo} (hst : (s.slot k).state = .awaitingOutcome) :
    (s.setSlot k (s.slot k).waitOver).passesOwned := by
  have hrest : (s.slot k).waitOver.state = .landed ∨ (s.slot k).waitOver.state = .composed := (s.slot k).restState_cases
  refine State.passesOwned_unsent hs rfl (SlotRecord.waitOver_wellFormed (hs.formed k) hst) (by rw [hst]; nofun) ?_ ?_
    (fun _ _ => Iff.rfl) fun j hj => ⟨fun _ => ?_, fun _ => hj⟩
  all_goals rcases hrest with h | h <;> rw [h] <;> first | rfl | nofun

/-- A matched outcome (R19). -/
theorem State.passesOwned_takeOutcome (hs : s.passesOwned) {k : SlotNo} (hst : (s.slot k).state = .awaitingOutcome) (d : Word) :
    (s.takeOutcome k d).passesOwned := by
  have hwait := State.passesOwned_waitOver hs hst
  unfold State.takeOutcome
  dsimp only
  split
  · exact hwait
  · rw [State.appendOutcome_eq]
    exact hwait

/-! ### Landings -/

/-- The tap's treatment of a landing leaves the passes' slots, bindings and landings. -/
theorem State.passesOwned_tapLanding (hs : s.passesOwned) (a : WriteAccess) (n : LinkName) : (s.tapLanding a n).passesOwned := by
  unfold State.tapLanding
  split <;> exact hs

/-- The tap's treatment of a landing leaves the slots. -/
theorem State.slot_tapLanding (s : State) (a : WriteAccess) (n : LinkName) (k : SlotNo) : (s.tapLanding a n).slot k = s.slot k := by
  unfold State.tapLanding
  split <;> rfl

/-- A landing submitted while its slot holds its frame (R42). -/
theorem State.passesOwned_submit (hs : s.passesOwned) {l : Landing} (landed : (s.slot l.slot).state.landedOn = true) :
    (s.submit l).passesOwned := by
  unfold State.submit
  split
  · exact (s.decision_runStages l).passesOwned hs fun _ => landed
  · split
    · refine State.passesOwned_of_landings (s := s) rfl rfl (fun j hj => ?_) hs
      obtain ⟨l', hl', hcur, hj⟩ := hj
      have hl' : l' ∈ (s.verdicts.work.map fun w => w.landing).toList ++ (s.verdicts.waiting ++ [l]) := hl'
      rw [← List.append_assoc] at hl'
      rcases List.mem_append.1 hl' with hl' | hl'
      · exact hs.landed ⟨l', hl', hcur, hj⟩
      · rw [List.mem_singleton.1 hl'] at hj
        exact hj ▸ landed
    · have hrecord := State.passesOwned_recordVerdict (l := l) hs (fun _ => landed) (Verdict.formed_plain (c := .late) (by decide))
      unfold State.overflow
      dsimp only
      split
      · exact State.passesOwned_releaseLanding (s := State.raise ((s.recordVerdict l (.plain .late)).count .lateVerdicts) .lateVerdict)
          hrecord _
      · exact hrecord

/-- The landing of a frame (R11). -/
theorem State.passesOwned_land (hs : s.passesOwned) {p : Port} {k : SlotNo} (a : WriteAccess)
    (fills : (s.slot k).fillingBy p = true) : (s.land p k a).passesOwned := by
  have hst : (s.slot k).state = .filling := by
    simp only [SlotRecord.fillingBy, Bool.and_eq_true, beq_iff_eq] at fills
    exact fills.1
  unfold State.land
  dsimp only
  generalize hr : ({ s.slot k with state := .landed, landingPort := some p, passPort := none, verdict := .none } :
    SlotRecord) = r
  have hstate : r.state = .landed := by rw [← hr]
  have hset : (s.setSlot k r).passesOwned :=
    State.passesOwned_unsent hs rfl (hr ▸ SlotRecord.landed_wellFormed (hs.formed k) hst p) (by rw [hst]; nofun)
      (by rw [hstate]; nofun) (by rw [hstate]; nofun) (fun _ _ => Iff.rfl) fun j hj => ⟨fun _ => by rw [hstate]; rfl, fun _ => hj⟩
  refine State.passesOwned_submit (State.passesOwned_tapLanding (s := (s.setSlot k r).count .framesLanded) hset a _) ?_
  show ((((s.setSlot k r).count .framesLanded).tapLanding a _).slot k).state.landedOn = true
  rw [State.slot_tapLanding]
  show (((s.setSlot k r).slot k).state).landedOn = true
  rw [State.slot_setSlot_same, hstate]
  rfl

/-- A stray landing (R12). -/
theorem State.passesOwned_landStray (hs : s.passesOwned) (p : Port) (k : SlotNo) (a : WriteAccess) :
    (s.landStray p k a).passesOwned := by
  have hbound (q : Port) (j : SlotNo) : (s.endForFill k).bound q j ↔ s.bound q j ∧ j ≠ k :=
    hs.bound_without (State.endForFill_bindings s k) q j
  have hset : (((s.endForFill k).disownRecord k).setSlot k (SlotRecord.stray p)).passesOwned := by
    refine State.passesOwned_setSlot (k := k) (r := SlotRecord.stray p) hs ?_ (SlotRecord.stray_wellFormed p) nofun
      (fun q j hj => ?_) (fun q => ⟨fun h => (nomatch h.1), fun h => ?_⟩) fun j hj => ?_
    · show (s.endForFill k).slots.set k.val _ = _
      rw [State.endForFill_eq]
    · rw [← and_iff_left (a := s.bound q j) hj]
      exact hbound q j
    · exact absurd rfl ((hbound q k).1 h).2
    · obtain ⟨hne, hj⟩ := State.landsOn_disownRecord (s := s.endForFill k) (k := k) hj
      rw [State.landsOn_of_verdicts (s := s) (by rw [State.endForFill_eq])] at hj
      exact ⟨fun h => absurd h hne, fun _ => hj⟩
  have hlanded : (((s.endForFill k).disownRecord k).setSlot k (SlotRecord.stray p)).slot k = SlotRecord.stray p :=
    State.slot_setSlot_same _ _ _
  unfold State.landStray
  dsimp only
  generalize ((s.endForFill k).disownRecord k).setSlot k (SlotRecord.stray p) = u at hset hlanded ⊢
  have hcount : (u.count .framesLanded).passesOwned := State.passesOwned_of_flow (s := u) rfl hset
  refine State.passesOwned_announce (State.passesOwned_tapLanding hcount a _) (fun _ => ?_) (Verdict.formed_plain (by decide))
  show (((u.count .framesLanded).tapLanding a _).slot k).state.landedOn = true
  rw [State.slot_tapLanding]
  show (u.slot k).state.landedOn = true
  rw [hlanded]
  rfl

/-! ### Transmit passes -/

/-- A sent link keeps a record well formed that is not VACANT. -/
theorem SlotRecord.withSent_wellFormed {r : SlotRecord} (h : r.wellFormed) (hv : r.state ≠ .vacant) (n : Option LinkName) :
    SlotRecord.wellFormed { r with sentLink := n } := by
  obtain ⟨-, hsource, hport, hprogress, hdeadline, hrefusal, hverdict, hbudget⟩ := h
  exact ⟨fun h => absurd h hv, hsource, hport, hprogress, hdeadline, hrefusal, hverdict, hbudget⟩

/-- The search for another slot IN_SEND depends on the slots alone, and the deadline on time and setting. -/
theorem State.supersedeOther_slots_congr (h : t.slots = s.slots) (hd : t.newDeadline = s.newDeadline) (p : Port) (k : SlotNo) :
    (t.supersedeOther p k).slots = (s.supersedeOther p k).slots := by
  have hfind : t.otherInSend p k = s.otherInSend p k := by
    unfold State.otherInSend State.slot
    rw [h]
  cases hs : s.otherInSend p k with
  | none => rw [State.supersedeOther_none (hfind.trans hs), State.supersedeOther_none hs, h]
  | some i =>
    rw [State.supersedeOther_some (hfind.trans hs), State.supersedeOther_some hs]
    show t.slots.set i.val ((t.slot i).passEnded t.newDeadline) = s.slots.set i.val ((s.slot i).passEnded s.newDeadline)
    unfold State.slot
    rw [h, hd]

/-- What the search for another slot IN_SEND finds. -/
theorem State.otherInSend_some {p : Port} {k i : SlotNo} (h : s.otherInSend p k = some i) : i ≠ k ∧ (s.slot i).sentBy p := by
  have := List.find?_some h
  simp only [Bool.and_eq_true, bne_iff_ne, ne_eq, beq_iff_eq] at this
  exact ⟨this.1.1, this.1.2, this.2⟩

/-- What the search for another slot IN_SEND does not find. -/
theorem State.otherInSend_none {p : Port} {k : SlotNo} (h : s.otherInSend p k = none) {j : SlotNo} (hj : j ≠ k) :
    ¬(s.slot j).sentBy p := by
  rintro ⟨hst, hport⟩
  have := List.find?_eq_none.mp h j (List.mem_finRange j)
  simp [hj, hst, hport] at this

/-- A pass ends on its slot, and its binding is dropped (R17, R18). -/
theorem State.passesOwned_passEnded (hs : s.passesOwned) {p : Port} {k : SlotNo} (hsent : (s.slot k).sentBy p) (d : Nat)
    (slots : t.slots = s.slots.set k.val ((s.slot k).passEnded d))
    (bindings : t.overlay.bindings = (s.dropBinding p).overlay.bindings) (verdicts : t.verdicts = s.verdicts) : t.passesOwned := by
  have hk : s.bound p k := (hs.sent_iff p k).1 hsent
  have hbound (q : Port) (j : SlotNo) : t.bound q j ↔ (s.dropBinding p).bound q j := State.bound_of_bindings bindings q j
  have hdropped (j : SlotNo) : ¬t.bound p j := by
    rw [hbound]
    rintro ⟨b, hb, -⟩
    rw [State.binding_dropBinding_same] at hb
    cases hb
  have hother (q : Port) (j : SlotNo) (hq : q ≠ p) : t.bound q j ↔ s.bound q j := by
    rw [hbound, State.bound_of_binding (State.binding_dropBinding_other s hq)]
  refine State.passesOwned_setSlot hs slots (SlotRecord.passEnded_wellFormed (hs.formed k) hsent.1 d) nofun (fun q j hj => ?_)
    (fun q => ⟨fun h => (nomatch h.1), fun h => ?_⟩) fun j hj => ⟨fun _ => rfl, fun _ => (State.landsOn_of_verdicts verdicts j).1 hj⟩
  · by_cases hq : q = p
    · subst hq
      exact iff_of_false (hdropped j) fun h => hj (State.bound_unique h hk)
    · exact hother q j hq
  · by_cases hq : q = p
    · subst hq
      exact absurd h (hdropped k)
    · have hport := ((hs.sent_iff q k).2 ((hother q k hq).1 h)).2
      exact absurd (Option.some.inj (hport.symm.trans hsent.2)) hq

/-- The port's pass on another slot ends: the passes stay owned, and the port's binding is of no other slot (R17). -/
theorem State.passesOwned.supersedeOther (hs : s.passesOwned) (p : Port) (k : SlotNo) :
    (s.supersedeOther p k).passesOwned ∧ (∀ j, (s.supersedeOther p k).bound p j → j = k) ∧
    ∀ q, q ≠ p → ∀ j, (s.supersedeOther p k).bound q j ↔ s.bound q j := by
  cases h : s.otherInSend p k with
  | none =>
    rw [State.supersedeOther_none h]
    refine ⟨hs, fun j hj => ?_, fun _ _ _ => Iff.rfl⟩
    exact Classical.byContradiction fun hne => State.otherInSend_none h hne ((hs.sent_iff p j).2 hj)
  | some i =>
    rw [State.supersedeOther_some h]
    obtain ⟨-, hsent⟩ := State.otherInSend_some h
    refine ⟨State.passesOwned_passEnded hs hsent _ rfl rfl rfl, fun j ⟨b, hb, _⟩ => ?_, fun q hq j => ?_⟩
    · have hnone : (s.dropBinding p).binding p = none := State.binding_dropBinding_same s p
      exact nomatch hnone.symm.trans hb
    · exact State.bound_of_binding (State.binding_dropBinding_other s hq) j

/-- Another slot's superseded pass leaves the slot's own record. -/
theorem State.slot_supersedeOther (s : State) (p : Port) (k : SlotNo) : (s.supersedeOther p k).slot k = s.slot k := by
  cases h : s.otherInSend p k with
  | none => rw [State.supersedeOther_none h]
  | some i =>
    rw [State.supersedeOther_some h]
    exact State.slot_setSlot_other s _ (State.otherInSend_some h).1.symm

/-- What another pass begins with: the slot's own pass and the port's other pass have ended (R16, R17). -/
theorem State.passesOwned.beginning (hs : s.passesOwned) (p : Port) (k : SlotNo) :
    ((s.endForSend k).supersedeOther p k).slots = (s.supersedeOther p k).slots ∧
    ((s.endForSend k).supersedeOther p k).verdicts = s.verdicts ∧
    ∀ q, q ≠ p → ∀ j, ((s.endForSend k).supersedeOther p k).bound q j ↔ s.bound q j ∧ j ≠ k := by
  have hend : (s.endForSend k).slots = s.slots := by rw [State.endForSend_eq]
  have hbound := hs.bound_without (State.endForSend_bindings s k)
  refine ⟨State.supersedeOther_slots_congr hend (by rw [State.endForSend_eq]; rfl) p k, ?_, fun q hq j => ?_⟩
  · rw [State.supersedeOther_eq, State.endForSend_eq]
  · rw [← hbound q j]
    cases h : (s.endForSend k).otherInSend p k with
    | none => rw [State.supersedeOther_none h]
    | some i =>
      rw [State.supersedeOther_some h]
      exact State.bound_of_binding (State.binding_dropBinding_other _ hq) j

/-- A pass that begins owns its slot and its port's binding. -/
theorem State.passesOwned_begun (hs : s.passesOwned) {p : Port} {k : SlotNo} {r : SlotRecord} {b : Binding}
    (slots : t.slots = (s.supersedeOther p k).slots.set k.val r) (formed : r.wellFormed) (sent : r.sentBy p)
    (bindings : t.overlay.bindings = ((s.endForSend k).supersedeOther p k).overlay.bindings.set p.val (some b))
    (slot : b.slot = k) (verdicts : t.verdicts = s.verdicts) : t.passesOwned := by
  obtain ⟨hbase, hport, hothers⟩ := hs.supersedeOther p k
  obtain ⟨-, -, hbegin⟩ := hs.beginning p k
  generalize (s.endForSend k).supersedeOther p k = s1 at bindings hbegin
  have hbound (q : Port) (j : SlotNo) : t.bound q j ↔ (s1.setBinding p b).bound q j := State.bound_of_bindings bindings q j
  have hown (j : SlotNo) : t.bound p j ↔ j = k := by
    rw [hbound]
    unfold State.bound
    rw [State.binding_setBinding_same]
    exact ⟨fun ⟨c, hc, hj⟩ => by cases hc; exact hj.symm.trans slot, fun h => ⟨b, rfl, slot.trans h.symm⟩⟩
  have hother (q : Port) (j : SlotNo) (hq : q ≠ p) : t.bound q j ↔ s.bound q j ∧ j ≠ k := by
    rw [hbound, State.bound_of_binding (State.binding_setBinding_other _ b hq)]
    exact hbegin q hq j
  refine State.passesOwned_setSlot hbase slots formed (fun h => nomatch sent.1.symm.trans h) (fun q j hj => ?_) (fun q => ?_)
    fun j hj => ⟨fun _ => by rw [sent.1]; rfl, fun _ => ?_⟩
  · by_cases hq : q = p
    · subst hq
      exact iff_of_false (fun h => hj ((hown j).1 h)) fun h => hj (hport j h)
    · rw [hother q j hq, hothers q hq]
      exact and_iff_left hj
  · by_cases hq : q = p
    · subst hq
      exact iff_of_true sent ((hown k).2 rfl)
    · refine iff_of_false (fun h => hq (Option.some.inj (h.2.symm.trans sent.2))) fun h => ((hother q k hq).1 h).2 rfl
  · rw [State.landsOn_of_verdicts (s := s) (by rw [State.supersedeOther_eq])]
    exact (State.landsOn_of_verdicts verdicts j).1 hj

/-- A transmit pass begins (R16, R17). -/
theorem State.passesOwned_beginPass (hs : s.passesOwned) (p : Port) {k : SlotNo} (a : WordAddr)
    (starts : (s.slot k).state.startsPass = true) : (s.beginPass p k a).passesOwned := by
  obtain ⟨hslots, hverdicts, -⟩ := hs.beginning p k
  unfold State.beginPass
  dsimp only
  have hslot : ((s.endForSend k).supersedeOther p k).slot k = s.slot k := by
    refine Eq.trans ?_ (s.slot_supersedeOther p k)
    simp only [State.slot, hslots]
  rw [hslot]
  generalize hs1 : (s.endForSend k).supersedeOther p k = s1 at hslots hverdicts
  generalize hr : ({ s.slot k with
    state := .inSend, passPort := some p, progress := 0, deadline := none, sentLink := none } : SlotRecord) = r
  have hformed : r.wellFormed := hr ▸ SlotRecord.inSend_wellFormed (hs.formed k) starts p
  have hsent : r.sentBy p := by rw [← hr]; exact ⟨rfl, rfl⟩
  have hs2 : (s1.setSlot k r).advanceSequence (s1.treatmentOf r) =
      { s1.setSlot k r with overlay := ((s1.setSlot k r).advanceSequence (s1.treatmentOf r)).overlay } :=
    State.advanceSequence_eq _ _
  have hbind : ((s1.setSlot k r).advanceSequence (s1.treatmentOf r)).overlay.bindings = s1.overlay.bindings := by
    cases s1.treatmentOf r <;> rfl
  have hset : ((s1.setSlot k r).advanceSequence (s1.treatmentOf r)).slots = (s.supersedeOther p k).slots.set k.val r := by
    rw [hs2, ← hslots]
    rfl
  have hverd : ((s1.setSlot k r).advanceSequence (s1.treatmentOf r)).verdicts = s.verdicts := by
    rw [hs2]
    exact hverdicts
  generalize (s1.setSlot k r).advanceSequence (s1.treatmentOf r) = s2 at hbind hset hverd
  generalize hb : s2.newBinding k (s1.treatmentOf r) (loHalf (s2.baseWord r 0 a)) = b
  have hbk : b.slot = k := by rw [← hb]; rfl
  split
  · refine State.passesOwned_begun hs hset hformed hsent (b := b) ?_ hbk hverd
    show s2.overlay.bindings.set p.val (some b) = _
    rw [hbind, hs1]
  · have hrec : (s2.setBinding p b).slot b.slot = r := by
      rw [hbk]
      show s2.slots[k.val] = r
      simp only [hset, Vector.getElem_set_self]
    refine State.passesOwned_begun hs (r := { r with sentLink := s2.sentLinkOf b.treatment b.receiver p }) (b := b) ?_ ?_ hsent ?_ hbk hverd
    · have hrec' : s2.slot b.slot = r := hrec
      show s2.slots.set b.slot.val { s2.slot b.slot with sentLink := s2.sentLinkOf b.treatment b.receiver p } = _
      subst hbk
      rw [hrec', hset, Vector.set_set]
    · exact SlotRecord.withSent_wellFormed hformed (by rw [hsent.1]; nofun) _
    · show s2.overlay.bindings.set p.val (some b) = _
      rw [hbind, hs1]

/-- A pass bound anew to the slot it has (R140). -/
theorem State.passesOwned_bindPass (hs : s.passesOwned) {p : Port} {b c : Binding} (bound : s.binding p = some b)
    (slot : c.slot = b.slot) : (s.bindPass p c).passesOwned := by
  have hsent : (s.slot c.slot).sentBy p := by
    rw [slot]
    exact (hs.sent_iff p b.slot).2 ⟨b, bound, rfl⟩
  refine State.passesOwned_keep hs (k := c.slot) (r := { s.slot c.slot with sentLink := s.sentLinkOf c.treatment c.receiver p }) rfl
    (SlotRecord.withSent_wellFormed (hs.formed c.slot) (by rw [hsent.1]; nofun) _) rfl rfl (fun q j => ?_) fun _ h => h
  show (s.setBinding p c).bound q j ↔ _
  by_cases hq : q = p
  · subst hq
    unfold State.bound
    rw [State.binding_setBinding_same, bound]
    constructor
    · rintro ⟨x, hx, rfl⟩
      cases hx
      exact ⟨b, rfl, slot.symm⟩
    · rintro ⟨x, hx, rfl⟩
      cases hx
      exact ⟨c, rfl, slot⟩
  · exact State.bound_of_binding (State.binding_setBinding_other s c hq) j

/-- The pass port reads a word: word 6 ends the pass (R18). -/
theorem State.passesOwned_readPassWord (hs : s.passesOwned) {p : Port} {k : SlotNo} (w : HeaderIx) (a : WordAddr)
    (hsent : (s.slot k).sentBy p) : (s.readPassWord p k w a).passesOwned := by
  unfold State.readPassWord
  dsimp only
  split
  · exact hs
  · split
    · exact State.passesOwned_passEnded hs hsent _ rfl rfl rfl
    · obtain ⟨-, hsource, hport, -, hdeadline, hrefusal, hverdict, hbudget⟩ := hs.formed k
      exact State.passesOwned_keep hs (k := k) rfl ⟨fun h => (nomatch hsent.1.symm.trans h), hsource, hport,
        fun h => absurd hsent.1 h, hdeadline, hrefusal, hverdict, hbudget⟩ rfl rfl (fun _ _ => Iff.rfl) fun _ h => h

/-- The supply of a held read leaves slots, bindings and landings. -/
theorem State.passesOwned_releaseRead (hs : s.passesOwned) (w : Word) : (s.releaseRead w).passesOwned := hs

/-- A lookup's answer binds the same slot. -/
theorem State.answeredBinding_slot (s : State) (p : Port) (b : Binding) : (s.answeredBinding p b).1.slot = b.slot := by
  unfold State.answeredBinding
  dsimp only
  split
  · split
    · rfl
    · split <;> rfl
  · rfl

/-- The late binding is of the same slot. -/
theorem Binding.lateBinding_slot (b : Binding) : b.lateBinding.slot = b.slot := by
  unfold Binding.lateBinding
  split <;> rfl

/-- The landings when none is held any more. -/
theorem State.unholdLandings_landings (s : State) :
    s.unholdLandings.landings = s.landings.map fun l => { l with held := false } := by
  simp only [State.landings, State.unholdLandings, List.map_append, Option.map_map]
  congr 1
  cases s.verdicts.work <;> rfl

/-- Landings held no more own the records that they owned (R60). -/
theorem State.passesOwned_unhold (hs : s.passesOwned) :
    State.passesOwned (State.raise (s.unholdLandings.count .lateVerdicts) .lateVerdict) := by
  refine State.passesOwned_of_landings (s := s) rfl rfl (fun j hj => ?_) hs
  obtain ⟨l', hl', hcur, hj⟩ := hj
  have hmem : l' ∈ s.unholdLandings.landings := hl'
  rw [State.unholdLandings_landings] at hmem
  obtain ⟨l, hl, rfl⟩ := List.mem_map.1 hmem
  exact hs.landed ⟨l, hl, hcur, hj⟩

/-! ### Nothing owned -/

/-- With all slots VACANT, no binding and no landing the passes are owned. -/
theorem State.passesOwned_of_vacant (slots : t.slots = Vector.replicate 512 SlotRecord.vacant)
    (bindings : t.overlay.bindings = Vector.replicate 3 none) (landings : t.landings = []) : t.passesOwned := by
  have hslot (k : SlotNo) : t.slot k = SlotRecord.vacant := by simp only [State.slot, slots, Vector.getElem_replicate]
  have hbinding (p : Port) : t.binding p = none := by simp only [State.binding, bindings, Vector.getElem_replicate]
  rw [State.passesOwned_iff]
  simp only [hslot]
  refine ⟨fun _ => SlotRecord.vacant_wellFormed, fun _ _ h => (nomatch h), fun p k => ⟨fun h => (nomatch h.1), ?_⟩, ?_⟩
  · rintro ⟨b, hb, -⟩
    exact nomatch (hbinding p).symm.trans hb
  · rintro k ⟨l, hl, -⟩
    rw [landings] at hl
    cases hl

/-- Owned passes after a block reset. -/
theorem State.passesOwned_blockReset (s : State) : s.blockReset.passesOwned := State.passesOwned_of_vacant rfl rfl rfl

/-- Owned passes after the beginning of a hardware reset. -/
theorem State.passesOwned_discardWork (s : State) : s.discardWork.passesOwned := State.passesOwned_of_vacant rfl rfl rfl

/-- A command's body leaves the passes owned, from a state in which TRANSPARENT is quiet. -/
theorem State.BodyFlow.passesOwned (h : s.BodyFlow t) (quiet : s.transparentIsQuiet) (hs : s.passesOwned) : t.passesOwned := by
  cases h with
  | still t h => exact State.passesOwned_of_flow h hs
  | started hr =>
    obtain ⟨-, hwork, hwaiting, -, -, -, -, -, -, -, hbindings⟩ := quiet (by simpa [State.engineRuns] using hr)
    unfold State.begin
    dsimp only
    rw [State.beginWalk_eq]
    refine State.passesOwned_of_vacant rfl ?_ ?_
    · exact Vector.ext fun i hi => (hbindings ⟨i, hi⟩).trans (Vector.getElem_replicate _).symm
    · show (s.verdicts.work.map fun w => w.landing).toList ++ s.verdicts.waiting = []
      rw [hwork, hwaiting]
      rfl
  | stopped => exact State.passesOwned_of_vacant rfl rfl rfl
  | restarted => exact State.passesOwned_of_flow rfl s.passesOwned_blockReset

/-- Every act leaves the passes owned, from a state in which TRANSPARENT is quiet. -/
theorem Move.passesOwned (h : Move s t) (quiet : s.transparentIsQuiet) (hs : s.passesOwned) : t.passesOwned := by
  have flow {t : State} (h : t.flow = s.flow) : t.passesOwned := State.passesOwned_of_flow h hs
  have commandStep {t : State} (h : t.flow = s.afterOtherStep.flow) : t.passesOwned := flow (h.trans s.flow_afterOtherStep)
  have worked {w : VerdictWork} (work : s.verdicts.work = some w) : w.landing.current = true →
      (s.slot w.landing.slot).state.landedOn = true := fun hcur =>
    hs.landed ⟨w.landing, by simp [State.landings, work], hcur, rfl⟩
  cases h with
  | waits => exact hs
  | tick => exact flow rfl
  | power m =>
    cases m with
    | applied => exact s.passesOwned_discardWork
    | stable straps =>
      show (s.powerStable straps).passesOwned
      unfold State.powerStable
      dsimp only
      split
      · exact s.passesOwned_discardWork
      · exact s.discardWork.passesOwned_blockReset
  | resetLow => exact s.passesOwned_discardWork
  | resetHigh straps =>
    unfold State.resetReleased
    split
    · split
      · exact s.passesOwned_blockReset
      · exact s.passesOwned_blockReset
      · exact flow rfl
    · exact hs
  | write a d be => exact flow rfl
  | latch a l d be => exact flow rfl
  | strayGo a d be => exact flow rfl
  | completeSource a d be n =>
    rw [State.completeSource_eq]
    exact flow rfl
  | busy a d be code tag => exact flow rfl
  | command a d be code tag =>
    exact (commandBody_flow _ code).passesOwned (State.transparentIsQuiet_of_views (s := s) rfl rfl quiet) (flow rfl)
  | answer w => exact flow rfl
  | claim =>
    unfold State.claim
    split <;> exact flow rfl
  | software k w a => exact State.passesOwned_softwareHeader (s := s.passing a) hs k w a.data a.be
  | header p k w a => exact State.passesOwned_receiveHeader (s := s.passing a) hs p k w a.data a.be
  | landing p k a free runs fills => exact State.passesOwned_land hs a fills
  | strayLanding p k a => exact State.passesOwned_landStray hs p k a
  | matched p k a free runs awaited =>
    simp only [State.matchesOutcome, Bool.and_eq_true, beq_iff_eq] at awaited
    obtain ⟨⟨-, hst⟩, -⟩ := awaited
    exact State.passesOwned_takeOutcome (s := s.passing a) hs hst a.data
  | unmatched a => exact flow rfl
  | passStart p k a free runs starts => exact State.passesOwned_beginPass hs p a starts
  | passWord p k w a free runs word sends port => exact State.passesOwned_readPassWord hs w a ⟨sends, port⟩
  | pinStep => exact commandStep (State.views_pinStepBody _).1
  | unpinStep => exact commandStep (State.views_unpinStepBody _).1
  | readRouteStep => exact commandStep (State.views_readRouteStepBody _).1
  | readWantedStep => exact commandStep (State.views_readWantedStepBody _).1
  | releaseWantedStep => exact commandStep (State.views_releaseWantedStepBody _).1
  | takeWaiting l ls live idle waiting =>
    have hmem (l' : Landing) (h : l' ∈ l :: ls) : l' ∈ s.landings := by
      simp only [State.landings, idle, waiting]
      exact h
    have hrest : State.passesOwned { s with verdicts := { s.verdicts with waiting := ls } } := by
      refine State.passesOwned_of_landings (s := s) rfl rfl (fun j hj => ?_) hs
      obtain ⟨l', hl', hl''⟩ := hj
      simp only [State.landings, idle] at hl'
      exact hs.landed ⟨l', hmem l' (List.mem_cons_of_mem l hl'), hl''⟩
    exact (State.decision_runStages _ l).passesOwned hrest fun hcur =>
      hs.landed ⟨l, hmem l (List.mem_cons_self ..), hcur, rfl⟩
  | landingHoldExpiry =>
    unfold State.landingHoldExpiry
    split
    · exact State.passesOwned_unhold (State.passesOwned_releaseLanding hs _)
    · exact hs
  | learn l m perm granted work => exact (s.decision_learn l m perm).passesOwned hs (worked work)
  | choose l m perm i first granted work => exact (s.decision_choose l m perm i).passesOwned hs (worked work)
  | lookup l granted work => exact (s.decision_lookupForward l).passesOwned hs (worked work)
  | passLookup p b granted awaits bound =>
    have hafter : s.afterOtherStep.passesOwned := flow s.flow_afterOtherStep
    have hbind := State.passesOwned_bindPass hafter bound (State.answeredBinding_slot s.afterOtherStep p b)
    unfold State.answerLookup State.countIf
    dsimp only
    generalize s.afterOtherStep.bindPass p _ = u at hbind ⊢
    split <;> exact State.passesOwned_of_flow (s := u.releaseRead _) rfl (State.passesOwned_releaseRead hbind _)
  | passStartHoldExpiry =>
    unfold State.passStartHoldExpiry
    split
    · split
      · exact hs
      next b bound =>
        have hbind := State.passesOwned_bindPass hs bound b.lateBinding_slot
        generalize s.bindPass _ b.lateBinding = u at hbind ⊢
        exact State.passesOwned_of_flow (s := u.releaseRead _) rfl (State.passesOwned_releaseRead hbind _)
    · exact hs
  | deadline k d live state => exact State.passesOwned_waitOver (s := s.reach d) hs state
  | outcomeJob o rest live queue => exact flow (State.flow_applyOutcome _ o)
  | sampleExpiry => exact flow s.flow_sampleExpiry
  | sweepBegin => exact flow rfl
  | sweepVisit i => exact flow ((State.flow_advanceSweep _ i).trans (s.flow_visitLink i))
  | purgeWindow => exact flow s.flow_purgeWindowExpiry
  | walkerStep w => exact flow ((State.flow_walkerStep _ w).trans s.flow_afterOtherStep)

/-- Settles O58: each act moves the record, the binding and the landings of a pass together. -/
theorem passesStayOwned : Obligations.PassesStayOwned := by
  intro s s' quiet hs h
  obtain ⟨rest, hmove⟩ := move_of_step h
  exact hmove.passesOwned quiet hs

end Sys2Proof.Machine
end

section
/-! PROOFS. The held access keeps its one owner (O59). -/

namespace Sys2Proof.Machine

variable {s t : State}

/-! ### Owners -/

/-- The number of landings that a held access wants marked as held. -/
def heldLandings : Option Held → Nat
  | some (.landing _ _ _ _) => 1
  | _ => 0

/-- A port awaits its lookup exactly while its binding does. -/
theorem State.awaitsLookup_iff (s : State) (p : Port) :
    s.awaitsLookup p = true ↔ ∃ b ∈ s.binding p, b.how = .awaiting := by
  unfold State.awaitsLookup State.binding
  cases s.overlay.bindings[p.val] <;> simp

/-- The held access has one owner, in these words. -/
theorem State.heldIsOwned_iff (s : State) :
    s.heldIsOwned ↔ (s.landings.countP fun l => l.held) = heldLandings s.bus.held ∧
      ∀ p, s.awaitsLookup p = true ↔ ∃ a, s.bus.held = some (.passStart a p) := Iff.rfl

/-- What leaves the passes' view leaves the held access its owner. -/
theorem State.heldIsOwned_of_flow (h : t.flow = s.flow) (hs : s.heldIsOwned) : t.heldIsOwned := by
  have hawaits (p : Port) : t.awaitsLookup p = true ↔ s.awaitsLookup p = true := by
    rw [State.awaitsLookup_iff, State.awaitsLookup_iff, State.binding_of_flow h]
  rw [State.heldIsOwned_iff] at hs ⊢
  simpa only [State.landings_of_flow h, State.held_of_flow h, hawaits] using hs

/-- No access is held, and nothing is marked so. -/
def State.unheld (s : State) : Prop :=
  s.bus.held = none ∧ (∀ l ∈ s.landings, l.held = false) ∧ ∀ p, ∀ b ∈ s.binding p, b.how ≠ .awaiting

/-- With no access held, the owners are none. -/
theorem State.heldIsOwned.unheld (hs : s.heldIsOwned) (h : s.bus.held = none) : s.unheld := by
  obtain ⟨hcount, hawaits⟩ := s.heldIsOwned_iff.1 hs
  rw [h] at hcount
  refine ⟨h, fun l hl => ?_, fun p b hb hhow => ?_⟩
  · simpa using List.countP_eq_zero.1 hcount l hl
  · obtain ⟨a, ha⟩ := (hawaits p).1 ((s.awaitsLookup_iff p).2 ⟨b, hb, hhow⟩)
    exact nomatch h.symm.trans ha

/-- With nothing marked as held and no access held, the owners are right. -/
theorem State.unheld.heldIsOwned (hs : s.unheld) : s.heldIsOwned := by
  obtain ⟨hnone, hlandings, hbindings⟩ := hs
  rw [State.heldIsOwned_iff, hnone]
  refine ⟨List.countP_eq_zero.2 fun l hl => by simp [hlandings l hl], fun p => iff_of_false ?_ fun ⟨_, h⟩ => nomatch h⟩
  rw [State.awaitsLookup_iff]
  rintro ⟨b, hb, hhow⟩
  exact hbindings p b hb hhow

/-- Nothing new is marked as held. -/
theorem State.unheld.of_kept (hs : s.unheld) (held : t.bus.held = none)
    (landings : ∀ l ∈ t.landings, ∃ l' ∈ s.landings, l'.held = l.held) (bindings : ∀ p, ∀ b ∈ t.binding p, b ∈ s.binding p) :
    t.heldIsOwned := by
  obtain ⟨-, hlandings, hbindings⟩ := hs
  refine State.unheld.heldIsOwned ⟨held, fun l hl => ?_, fun p b hb => hbindings p b (bindings p b hb)⟩
  obtain ⟨l', hl', h⟩ := landings l hl
  rw [← h]
  exact hlandings l' hl'

/-- Landings of the same Verdict Unit. -/
theorem State.landings_kept (h : t.verdicts = s.verdicts) : ∀ l ∈ t.landings, ∃ l' ∈ s.landings, l'.held = l.held := by
  intro l hl
  simp only [State.landings, h] at hl
  exact ⟨l, hl, rfl⟩

/-! ### Bindings that are dropped -/

/-- A dropped binding takes no other away. -/
theorem State.mem_binding_dropBinding {p q : Port} {b : Binding} (h : b ∈ (s.dropBinding p).binding q) : b ∈ s.binding q := by
  by_cases hq : q = p
  · subst hq
    rw [State.binding_dropBinding_same] at h
    cases h
  · rwa [State.binding_dropBinding_other s hq] at h

/-- The bindings without that of a slot are bindings that were there. -/
theorem State.mem_binding_without {k : SlotNo} (h : t.overlay.bindings = s.bindingsWithout k) {q : Port} {b : Binding}
    (hb : b ∈ t.binding q) : b ∈ s.binding q := by
  unfold State.binding at hb
  rw [h] at hb
  unfold State.bindingsWithout at hb
  split at hb
  · cases hp : (s.slot k).passPort with
    | none =>
      rw [hp] at hb
      exact hb
    | some p =>
      rw [hp] at hb
      exact State.mem_binding_dropBinding (p := p) hb
  · exact hb

/-- A superseded pass leaves bindings that were there. -/
theorem State.mem_binding_supersedeOther {p q : Port} {k : SlotNo} {b : Binding} (h : b ∈ (s.supersedeOther p k).binding q) :
    b ∈ s.binding q := by
  cases hs : s.otherInSend p k with
  | none =>
    rw [State.supersedeOther_none hs] at h
    exact h
  | some i =>
    rw [State.supersedeOther_some hs] at h
    exact State.mem_binding_dropBinding (s := s.setSlot i _) (p := p) h

/-- A record disowned leaves the landings as much held as they were. -/
theorem State.landings_disownRecord (k : SlotNo) :
    ∀ l ∈ (s.disownRecord k).landings, ∃ l' ∈ s.landings, l'.held = l.held := by
  intro l' hl'
  rw [State.disownRecord_landings] at hl'
  obtain ⟨l, hl, rfl⟩ := List.mem_map.1 hl'
  refine ⟨l, hl, ?_⟩
  unfold Landing.unless
  split <;> rfl

/-! ### Releases -/

/-- A held landing's release leaves no access held. -/
theorem State.held_releaseLanding {b : Byte} (h : heldLandings s.bus.held = 1) : (s.releaseLanding b).bus.held = none := by
  match hh : s.bus.held with
  | none => rw [hh] at h; cases h
  | some (.passStart a p) => rw [hh] at h; cases h
  | some (.landing a d be n) => rw [State.releaseLanding_held hh]

/-- The held access after a decided verdict: released when the landing's write is the one held. -/
theorem State.held_announce (l : Landing) (v : Verdict) :
    (l.held = true → heldLandings s.bus.held = 1 → (s.announce l v).bus.held = none) ∧
    (l.held = false → (s.announce l v).bus.held = s.bus.held) := by
  have hcount : (s.countAll (verdictCounters v.code v.reason)).bus = s.bus := by rw [State.countAll_eq]
  have hrecord : ((s.countAll (verdictCounters v.code v.reason)).recordVerdict l v).bus = s.bus := by
    rw [State.recordVerdict_eq]
    exact hcount
  unfold State.announce
  dsimp only
  refine ⟨fun hl hone => ?_, fun hl => ?_⟩
  · rw [if_pos hl]
    exact State.held_releaseLanding (by rw [hrecord]; exact hone)
  · rw [if_neg (Bool.eq_false_iff.1 hl)]
    exact congrArg BusTap.held hrecord

/-- A held landing is the one that the access belongs to: the others are not held. -/
theorem heldLandings_eq_one {l : Landing} {ls : List Landing} {h : Option Held}
    (hcount : ((l :: ls).countP fun l => l.held) = heldLandings h) (hl : l.held = true) :
    heldLandings h = 1 ∧ (ls.countP fun l => l.held) = 0 := by
  rw [List.countP_cons_of_pos (p := fun l : Landing => l.held) hl] at hcount
  have hle : heldLandings h ≤ 1 := by
    unfold heldLandings
    split <;> decide
  omega

/-- A landing not held counts for nothing. -/
theorem countP_of_not_held {l : Landing} {ls : List Landing} (hl : l.held = false) :
    ((l :: ls).countP fun l => l.held) = ls.countP fun l => l.held := List.countP_cons_of_neg (by simp [hl])

/-- A landing that leaves the Verdict Unit with a release when it is held. -/
theorem State.heldIsOwned_of_released {l : Landing} (hcount : ((l :: t.landings).countP fun l => l.held) = heldLandings s.bus.held)
    (hawaits : ∀ p, t.awaitsLookup p = true ↔ ∃ a, s.bus.held = some (.passStart a p))
    (released : l.held = true → heldLandings s.bus.held = 1 → t.bus.held = none)
    (kept : l.held = false → t.bus.held = s.bus.held) : t.heldIsOwned := by
  rw [State.heldIsOwned_iff]
  cases hl : l.held with
  | false =>
    rw [countP_of_not_held hl] at hcount
    rw [kept hl]
    exact ⟨hcount, hawaits⟩
  | true =>
    obtain ⟨hone, hzero⟩ := heldLandings_eq_one hcount hl
    rw [released hl hone]
    refine ⟨hzero, fun p => iff_of_false (fun h => ?_) fun ⟨_, h⟩ => nomatch h⟩
    obtain ⟨a, ha⟩ := (hawaits p).1 h
    rw [ha] at hone
    cases hone

/-- A decision on a landing, when it and those that wait account for the held access. -/
theorem State.Decision.heldIsOwned {l : Landing} (h : s.Decision l t)
    (hcount : ((l :: s.verdicts.waiting).countP fun l => l.held) = heldLandings s.bus.held)
    (hawaits : ∀ p, s.awaitsLookup p = true ↔ ∃ a, s.bus.held = some (.passStart a p)) : t.heldIsOwned := by
  have flowCount {u : State} (h : u.flow = s.flow) :
      ((l :: u.verdicts.waiting).countP fun l => l.held) = heldLandings u.bus.held := by
    rw [show u.verdicts.waiting = s.verdicts.waiting from congrArg Flow.waiting h, State.held_of_flow h]
    exact hcount
  have flowAwaits {u : State} (h : u.flow = s.flow) (p : Port) :
      u.awaitsLookup p = true ↔ ∃ a, u.bus.held = some (.passStart a p) := by
    rw [State.awaitsLookup_iff, State.binding_of_flow h, ← State.awaitsLookup_iff, State.held_of_flow h]
    exact hawaits p
  cases h with
  | concluded u v h =>
    obtain ⟨hreleased, hkept⟩ := State.held_announce (s := { u with verdicts := { u.verdicts with work := none } }) l v
    have hverdicts : (u.conclude l v).landings = u.verdicts.waiting := by
      rw [State.conclude_eq]
      rfl
    refine State.heldIsOwned_of_released (s := u) (l := l) (by rw [hverdicts]; exact flowCount h) (fun p => ?_) hreleased hkept
    rw [State.conclude_eq]
    exact flowAwaits h p
  | awaits u ph h => exact ⟨flowCount (u := u) h, flowAwaits (u := u) h⟩

/-! ### Every act -/

/-- A landing's write at the tap is held exactly when the landing is (R11, R22). -/
theorem State.held_tapLanding (a : WriteAccess) (n : LinkName) (h : s.bus.held = none) :
    heldLandings (s.tapLanding a n).bus.held = (if a.be.getLsbD 0 then 1 else 0) ∧
    ∀ p, ¬∃ b, (s.tapLanding a n).bus.held = some (.passStart b p) := by
  unfold State.tapLanding
  split
  · exact ⟨rfl, fun _ ⟨_, h⟩ => nomatch h⟩
  · exact ⟨congrArg heldLandings h, fun _ ⟨_, h'⟩ => nomatch h.symm.trans h'⟩

/-- The tap's treatment of a landing leaves all but memory and the held access. -/
theorem State.tapLanding_eq (s : State) (a : WriteAccess) (n : LinkName) :
    s.tapLanding a n =
      { s with mem := (s.tapLanding a n).mem, bus := { s.bus with held := (s.tapLanding a n).bus.held } } := by
  unfold State.tapLanding
  split <;> rfl

/-- A landing that waits, or that the wait list has no place for, keeps the owner of the held access as one computed at once does. -/
theorem State.heldIsOwned_submit {l : Landing} (hlandings : ∀ l' ∈ s.landings, l'.held = false)
    (hbindings : ∀ p, ∀ b ∈ s.binding p, b.how ≠ .awaiting) (hheld : heldLandings s.bus.held = if l.held then 1 else 0)
    (hpass : ∀ p, ¬∃ b, s.bus.held = some (.passStart b p)) : (s.submit l).heldIsOwned := by
  have hnone (ls : List Landing) (h : ∀ l' ∈ ls, l' ∈ s.landings) : (ls.countP fun l => l.held) = 0 :=
    List.countP_eq_zero.2 fun l' hl' => by simp [hlandings l' (h l' hl')]
  have hcount (ls : List Landing) (h : ∀ l' ∈ ls, l' ∈ s.landings) :
      ((l :: ls).countP fun l => l.held) = heldLandings s.bus.held := by
    rw [List.countP_cons, hnone ls h, hheld, Nat.zero_add]
  have hawaits (p : Port) : s.awaitsLookup p = true ↔ ∃ b, s.bus.held = some (.passStart b p) := by
    refine iff_of_false (fun h => ?_) (hpass p)
    obtain ⟨b, hb, hhow⟩ := (s.awaitsLookup_iff p).1 h
    exact hbindings p b hb hhow
  unfold State.submit
  split
  · exact (s.decision_runStages l).heldIsOwned (hcount _ fun l' hl' => List.mem_append_right _ hl') hawaits
  · split
    · refine ⟨?_, hawaits⟩
      show (((s.verdicts.work.map fun w => w.landing).toList ++ (s.verdicts.waiting ++ [l])).countP fun l => l.held) = _
      rw [← List.append_assoc, List.countP_append, List.countP_singleton]
      have := hnone s.landings fun _ h => h
      unfold State.landings at this
      rw [this, Nat.zero_add]
      exact hheld.symm
    · have hrecord : (s.recordVerdict l (.plain .late)).bus = s.bus ∧
          (s.recordVerdict l (.plain .late)).verdicts = s.verdicts ∧
          (s.recordVerdict l (.plain .late)).overlay = s.overlay := by
        rw [State.recordVerdict_eq]
        exact ⟨rfl, rfl, rfl⟩
      obtain ⟨hbus, hverdicts, hoverlay⟩ := hrecord
      unfold State.overflow
      dsimp only
      generalize s.recordVerdict l (.plain .late) = u at hbus hverdicts hoverlay
      have hland : u.landings = s.landings := by simp only [State.landings, hverdicts]
      have hbind (p : Port) : u.awaitsLookup p = s.awaitsLookup p := by simp only [State.awaitsLookup, hoverlay]
      have hsame : ((l :: u.landings).countP fun l => l.held) = heldLandings s.bus.held := hland ▸ hcount _ fun _ h => h
      split
      next hl =>
        refine State.heldIsOwned_of_released (s := s) (l := l) ?_ (fun p => ?_) (fun _ hone => ?_)
          fun h => absurd hl (Bool.eq_false_iff.1 h)
        · rw [State.releaseLanding_eq]
          exact hsame
        · rw [State.releaseLanding_eq]
          show u.awaitsLookup p = true ↔ _
          rw [hbind]
          exact hawaits p
        · exact State.held_releaseLanding (by rw [← hbus] at hone; exact hone)
      next hl =>
        refine State.heldIsOwned_of_released (s := s) (l := l) hsame (fun p => ?_) (fun h => absurd h hl) fun _ => congrArg BusTap.held hbus
        show u.awaitsLookup p = true ↔ _
        rw [hbind]
        exact hawaits p

/-- The landing of a frame. -/
theorem State.heldIsOwned_land (hs : s.unheld) (p : Port) (k : SlotNo) (a : WriteAccess) : (s.land p k a).heldIsOwned := by
  obtain ⟨hnone, hlandings, hbindings⟩ := hs
  unfold State.land
  dsimp only
  generalize ({ s.slot k with state := .landed, landingPort := some p, passPort := none, verdict := .none } : SlotRecord) = r
  have hu : ((s.setSlot k r).count .framesLanded).bus.held = none := hnone
  have hul : ((s.setSlot k r).count .framesLanded).landings = s.landings := rfl
  have hub (q : Port) : ((s.setSlot k r).count .framesLanded).binding q = s.binding q := rfl
  generalize (s.setSlot k r).count .framesLanded = u at hu hul hub
  generalize hl : landingOf k p (s.slot k).words (s.slot k).marks a.data a.be = l
  have hheld : l.held = a.be.getLsbD 0 := by rw [← hl]; rfl
  obtain ⟨htap, hpass⟩ := u.held_tapLanding a l.link hu
  refine State.heldIsOwned_submit (fun l' hl' => ?_) (fun q b hb => ?_) (by rw [htap, hheld]) hpass
  · rw [State.tapLanding_eq] at hl'
    exact hlandings l' (hul ▸ hl')
  · rw [State.tapLanding_eq] at hb
    exact hbindings q b (hub q ▸ hb)

/-- A stray landing: its write is released with its verdict. -/
theorem State.heldIsOwned_landStray (hs : s.unheld) (p : Port) (k : SlotNo) (a : WriteAccess) :
    (s.landStray p k a).heldIsOwned := by
  have ⟨hnone, _, _⟩ := hs
  have hend : (s.endForFill k).verdicts = s.verdicts ∧ (s.endForFill k).bus = s.bus := by
    rw [State.endForFill_eq]
    exact ⟨rfl, rfl⟩
  obtain ⟨hverdicts, hbus⟩ := hend
  unfold State.landStray
  dsimp only
  have hu : (((s.endForFill k).disownRecord k).setSlot k (SlotRecord.stray p)).bus.held = none := (congrArg BusTap.held hbus).trans hnone
  have hul (l : Landing) (hl : l ∈ (((s.endForFill k).disownRecord k).setSlot k (SlotRecord.stray p)).landings) :
      ∃ l' ∈ s.landings, l'.held = l.held := by
    obtain ⟨l', hl', h⟩ := State.landings_disownRecord k l hl
    obtain ⟨l'', hl'', h'⟩ := State.landings_kept hverdicts l' hl'
    exact ⟨l'', hl'', h'.trans h⟩
  have hub (q : Port) (b : Binding) (hb : b ∈ (((s.endForFill k).disownRecord k).setSlot k (SlotRecord.stray p)).binding q) :
      b ∈ s.binding q := State.mem_binding_without (State.endForFill_bindings s k) hb
  generalize ((s.endForFill k).disownRecord k).setSlot k (SlotRecord.stray p) = u at hu hul hub
  generalize hl : landingOf k p (SlotRecord.stray p).words (SlotRecord.stray p).marks a.data a.be = l
  have hheld : l.held = a.be.getLsbD 0 := by rw [← hl]; rfl
  obtain ⟨htap, hpass⟩ := State.held_tapLanding (s := u.count .framesLanded) a l.link hu
  obtain ⟨hreleased, hkept⟩ := State.held_announce (s := (u.count .framesLanded).tapLanding a l.link) l (.plain .dropMalformed)
  have hfinal : (((u.count .framesLanded).tapLanding a l.link).announce l (.plain .dropMalformed)).bus.held = none := by
    cases hlh : l.held with
    | true => exact hreleased hlh (by rw [htap, ← hheld, hlh]; rfl)
    | false =>
      rw [hkept hlh]
      rw [← hheld, hlh] at htap
      unfold State.tapLanding
      rw [← hheld, hlh]
      exact hu
  refine hs.of_kept hfinal (fun l' hl' => ?_) fun q b hb => ?_
  · rw [State.announce_eq, State.tapLanding_eq] at hl'
    exact hul l' hl'
  · rw [State.announce_eq, State.tapLanding_eq] at hb
    exact hub q b hb

/-- A receive header write holds nothing. -/
theorem State.heldIsOwned_receiveHeader (hs : s.unheld) (p : Port) (k : SlotNo) (w : HeaderIx) (d : Word) (be : Enables) :
    (s.receiveHeader p k w d be).heldIsOwned := by
  have ⟨hnone, _, _⟩ := hs
  unfold State.receiveHeader
  dsimp only
  split
  · exact hs.of_kept hnone (fun l hl => ⟨l, hl, rfl⟩) fun _ _ h => h
  · have hend : ((s.endForFill k).abandonOther p k).verdicts = s.verdicts ∧ ((s.endForFill k).abandonOther p k).bus = s.bus ∧
        ((s.endForFill k).abandonOther p k).overlay.bindings = s.bindingsWithout k := by
      rw [← State.endForFill_bindings, State.abandonOther_eq]
      exact ⟨by rw [State.endForFill_eq], by rw [State.endForFill_eq], rfl⟩
    generalize (s.endForFill k).abandonOther p k = u at hend
    obtain ⟨hverdicts, hbus, hbindings⟩ := hend
    refine hs.of_kept ((congrArg BusTap.held hbus).trans hnone) (fun l hl => ?_) fun q b hb =>
      State.mem_binding_without (t := u) hbindings hb
    obtain ⟨l', hl', h⟩ := State.landings_disownRecord (s := u) k l hl
    obtain ⟨l'', hl'', h'⟩ := State.landings_kept hverdicts l' hl'
    exact ⟨l'', hl'', h'.trans h⟩

/-- A transmit pass begins: its read is held exactly when its lookup is awaited (R139). -/
theorem State.heldIsOwned_beginPass (hs : s.unheld) (p : Port) (k : SlotNo) (a : WordAddr) : (s.beginPass p k a).heldIsOwned := by
  have ⟨hnone, hlandings, hbindings⟩ := hs
  have hs1 : ((s.endForSend k).supersedeOther p k).verdicts = s.verdicts ∧ ((s.endForSend k).supersedeOther p k).bus = s.bus := by
    rw [State.supersedeOther_eq, State.endForSend_eq]
    exact ⟨rfl, rfl⟩
  have hsub (q : Port) (b : Binding) (hb : b ∈ ((s.endForSend k).supersedeOther p k).binding q) : b ∈ s.binding q :=
    State.mem_binding_without (State.endForSend_bindings s k) (State.mem_binding_supersedeOther hb)
  unfold State.beginPass
  dsimp only
  generalize (s.endForSend k).supersedeOther p k = s1 at hs1 hsub ⊢
  obtain ⟨hverdicts, hbus⟩ := hs1
  generalize ({ s1.slot k with
    state := .inSend, passPort := some p, progress := 0, deadline := none, sentLink := none } : SlotRecord) = r
  have hs2 : ((s1.setSlot k r).advanceSequence (s1.treatmentOf r)).verdicts = s1.verdicts ∧
      ((s1.setSlot k r).advanceSequence (s1.treatmentOf r)).bus = s1.bus ∧
      ((s1.setSlot k r).advanceSequence (s1.treatmentOf r)).overlay.bindings = s1.overlay.bindings := by
    cases s1.treatmentOf r <;> exact ⟨rfl, rfl, rfl⟩
  obtain ⟨hverdicts2, hbus2, hbind2⟩ := hs2
  generalize (s1.setSlot k r).advanceSequence (s1.treatmentOf r) = s2 at hverdicts2 hbus2 hbind2 ⊢
  generalize s2.newBinding k (s1.treatmentOf r) (loHalf (s2.baseWord r 0 a)) = b
  have hland : s2.landings = s.landings := by simp only [State.landings, hverdicts2, hverdicts]
  have hheld2 : s2.bus.held = none := by rw [hbus2, hbus, hnone]
  have hother (q : Port) (hq : q ≠ p) (c : Binding) (hc : c ∈ (s2.setBinding p b).binding q) : c.how ≠ .awaiting := by
    rw [State.binding_setBinding_other s2 b hq] at hc
    have hc1 : c ∈ s1.binding q := by
      unfold State.binding at hc ⊢
      rwa [hbind2] at hc
    exact hbindings q c (hsub q c hc1)
  split
  next hawait =>
    rw [State.heldIsOwned_iff]
    refine ⟨?_, fun q => ?_⟩
    · show (s2.landings.countP fun l => l.held) = 0
      rw [hland]
      exact List.countP_eq_zero.2 fun l hl => by simp [hlandings l hl]
    · rw [State.awaitsLookup_iff]
      show (∃ c ∈ (s2.setBinding p b).binding q, c.how = .awaiting) ↔ ∃ x, some (Held.passStart a p) = some (.passStart x q)
      by_cases hq : q = p
      · subst hq
        refine iff_of_true ⟨b, ?_, hawait⟩ ⟨a, rfl⟩
        rw [State.binding_setBinding_same]
        rfl
      · refine iff_of_false (fun ⟨c, hc, hhow⟩ => hother q hq c hc hhow) fun ⟨_, h⟩ => ?_
        cases h
        exact hq rfl
  next hbound =>
    refine State.unheld.heldIsOwned ⟨hheld2, fun l hl => hlandings l (hland ▸ hl), fun q c hc => ?_⟩
    have hc : c ∈ (s2.setBinding p b).binding q := hc
    by_cases hq : q = p
    · subst hq
      rw [State.binding_setBinding_same] at hc
      cases hc
      exact hbound
    · exact hother q hq c hc

/-- A bound pass whose held read is supplied: no other port awaits a lookup (R139, R140, R141). -/
theorem State.heldIsOwned_supply {p : Port} {b : Binding} {a : WordAddr} (hs : s.heldIsOwned)
    (hheld : s.bus.held = some (.passStart a p)) (how : b.how ≠ .awaiting) (w : Word) :
    ((s.bindPass p b).releaseRead w).heldIsOwned := by
  obtain ⟨hcount, hawaits⟩ := s.heldIsOwned_iff.1 hs
  rw [hheld] at hcount
  refine State.unheld.heldIsOwned ⟨rfl, fun l hl => ?_, fun q c hc => ?_⟩
  · simpa using List.countP_eq_zero.1 hcount l hl
  · have hc : c ∈ (s.setBinding p b).binding q := hc
    by_cases hq : q = p
    · subst hq
      rw [State.binding_setBinding_same] at hc
      cases hc
      exact how
    · rw [State.binding_setBinding_other s b hq] at hc
      intro hhow
      obtain ⟨x, hx⟩ := (hawaits q).1 ((s.awaitsLookup_iff q).2 ⟨c, hc, hhow⟩)
      rw [hheld] at hx
      cases hx
      exact hq rfl

/-- A lookup's answer is no longer awaited. -/
theorem State.answeredBinding_how (s : State) (p : Port) (b : Binding) : (s.answeredBinding p b).1.how ≠ .awaiting := by
  unfold State.answeredBinding
  dsimp only
  split
  · split
    · nofun
    · split <;> nofun
  · nofun

/-- A late binding no longer awaits its lookup. -/
theorem Binding.lateBinding_how (b : Binding) : b.lateBinding.how ≠ .awaiting := by
  unfold Binding.lateBinding
  split <;> nofun

/-- Nothing is held after a block reset. -/
theorem State.heldIsOwned_blockReset (s : State) : s.blockReset.heldIsOwned := by
  refine State.unheld.heldIsOwned ⟨rfl, fun _ h => (nomatch h), fun p b hb => ?_⟩
  have hnone : s.blockReset.binding p = none := by
    show State.reset.overlay.bindings[p.val] = none
    simp only [State.reset, Overlay.reset, Vector.getElem_replicate]
  exact nomatch hnone.symm.trans hb

/-- Nothing is held after the beginning of a hardware reset. -/
theorem State.heldIsOwned_discardWork (s : State) : s.discardWork.heldIsOwned := by
  refine State.unheld.heldIsOwned ⟨congrArg Flow.held s.flow_discardWork, fun _ h => (nomatch h), fun p b hb => ?_⟩
  have hnone : s.discardWork.binding p = none :=
    (congrArg (fun f : Flow => f.bindings[p.val]) s.flow_discardWork).trans (Vector.getElem_replicate _)
  exact nomatch hnone.symm.trans hb

/-- A command's body leaves no access held. -/
theorem State.BodyFlow.heldIsOwned (h : s.BodyFlow t) (hs : s.unheld) : t.heldIsOwned := by
  have ⟨hnone, _, _⟩ := hs
  cases h with
  | still t h => exact State.heldIsOwned_of_flow h hs.heldIsOwned
  | started =>
    unfold State.begin
    dsimp only
    rw [State.beginWalk_eq]
    exact hs.of_kept hnone (fun l hl => ⟨l, hl, rfl⟩) fun _ _ h => h
  | stopped =>
    refine State.unheld.heldIsOwned ⟨hnone, fun _ h => (nomatch h), fun p b hb => ?_⟩
    have hbind : (s.halt.finish .done).binding p = none := Vector.getElem_replicate _
    exact nomatch hbind.symm.trans hb
  | restarted => exact State.heldIsOwned_of_flow (s := s.blockReset) rfl s.heldIsOwned_blockReset

/-- Every act leaves the held access its one owner. -/
theorem Move.heldIsOwned (h : Move s t) (hs : s.heldIsOwned) : t.heldIsOwned := by
  have flow {t : State} (h : t.flow = s.flow) : t.heldIsOwned := State.heldIsOwned_of_flow h hs
  have commandStep {t : State} (h : t.flow = s.afterOtherStep.flow) : t.heldIsOwned := flow (h.trans s.flow_afterOtherStep)
  have ⟨hcount, hawaits⟩ := s.heldIsOwned_iff.1 hs
  have worked {w : VerdictWork} (work : s.verdicts.work = some w) :
      ((w.landing :: s.verdicts.waiting).countP fun l => l.held) = heldLandings s.bus.held := by
    simpa [State.landings, work] using hcount
  cases h with
  | waits => exact hs
  | tick => exact flow rfl
  | power m =>
    cases m with
    | applied => exact State.heldIsOwned_of_flow (s := s.discardWork) rfl s.heldIsOwned_discardWork
    | stable straps =>
      show (s.powerStable straps).heldIsOwned
      unfold State.powerStable
      dsimp only
      split
      · exact State.heldIsOwned_of_flow (s := s.discardWork) rfl s.heldIsOwned_discardWork
      · exact State.heldIsOwned_of_flow (s := s.discardWork.blockReset) rfl s.discardWork.heldIsOwned_blockReset
  | resetLow => exact State.heldIsOwned_of_flow (s := s.discardWork) rfl s.heldIsOwned_discardWork
  | resetHigh straps =>
    unfold State.resetReleased
    split
    · split
      · exact State.heldIsOwned_of_flow (s := s.blockReset) rfl s.heldIsOwned_blockReset
      · exact State.heldIsOwned_of_flow (s := s.blockReset) rfl s.heldIsOwned_blockReset
      · exact flow rfl
    · exact hs
  | write a d be => exact flow rfl
  | latch a l d be => exact flow rfl
  | strayGo a d be => exact flow rfl
  | completeSource a d be n =>
    rw [State.completeSource_eq]
    exact flow rfl
  | busy a d be code tag => exact flow rfl
  | command a d be code tag takes =>
    have hfree : s.bus.held = none := by
      obtain ⟨⟨h, -⟩, -⟩ := takes
      exact h
    exact (commandBody_flow _ code).heldIsOwned (s := (s.writeMem a d be).taken code tag) (hs.unheld hfree)
  | answer w => exact flow rfl
  | claim =>
    unfold State.claim
    split <;> exact flow rfl
  | software k w a free =>
    refine (hs.unheld free.1).of_kept ?_ (State.landings_kept ?_) fun p b hb => ?_
    all_goals unfold State.softwareAccess at *
    · rw [State.softwareHeader_eq]
      exact free.1
    · rw [State.softwareHeader_eq]
      rfl
    · rw [State.softwareHeader_eq] at hb
      exact hb
  | header p k w a free =>
    exact State.heldIsOwned_receiveHeader (s := s.passing a) (hs.unheld free.1) p k w a.data a.be
  | landing p k a free => exact State.heldIsOwned_land (hs.unheld free.1) p k a
  | strayLanding p k a free => exact State.heldIsOwned_landStray (hs.unheld free.1) p k a
  | matched p k a free =>
    refine (hs.unheld free.1).of_kept ?_ (State.landings_kept ?_) fun p b hb => ?_
    all_goals unfold State.matchedAccess at *
    · rw [State.takeOutcome_eq]
      exact free.1
    · rw [State.takeOutcome_eq]
      rfl
    · rw [State.takeOutcome_eq] at hb
      exact hb
  | unmatched a => exact flow rfl
  | passStart p k a free => exact State.heldIsOwned_beginPass (hs.unheld free.1) p k a
  | passWord p k w a free =>
    unfold State.readPassWord
    dsimp only
    split
    · exact flow rfl
    · split
      · exact (hs.unheld free.1).of_kept free.1 (fun l hl => ⟨l, hl, rfl⟩) fun _ _ hb => State.mem_binding_dropBinding (p := p) hb
      · exact (hs.unheld free.1).of_kept free.1 (fun l hl => ⟨l, hl, rfl⟩) fun _ _ hb => hb
  | pinStep => exact commandStep (State.views_pinStepBody _).1
  | unpinStep => exact commandStep (State.views_unpinStepBody _).1
  | readRouteStep => exact commandStep (State.views_readRouteStepBody _).1
  | readWantedStep => exact commandStep (State.views_readWantedStepBody _).1
  | releaseWantedStep => exact commandStep (State.views_releaseWantedStepBody _).1
  | takeWaiting l ls live idle waiting =>
    refine (State.decision_runStages { s with verdicts := { s.verdicts with waiting := ls } } l).heldIsOwned ?_ hawaits
    simpa [State.landings, idle, waiting] using hcount
  | landingHoldExpiry =>
    unfold State.landingHoldExpiry
    split
    next a d be n hheld =>
      have hone : heldLandings s.bus.held = 1 := by rw [hheld]; rfl
      have hreleased := State.held_releaseLanding (b := verdictByte .late 0 (s.staleFlag n)) hone
      refine State.unheld.heldIsOwned ⟨hreleased, fun l hl => ?_, fun p b hb hhow => ?_⟩
      · have hmem : l ∈ (s.releaseLanding (verdictByte .late 0 (s.staleFlag n))).unholdLandings.landings := hl
        rw [State.unholdLandings_landings] at hmem
        obtain ⟨l', -, rfl⟩ := List.mem_map.1 hmem
        rfl
      · have hmem : b ∈ (s.releaseLanding (verdictByte .late 0 (s.staleFlag n))).binding p := hb
        rw [State.releaseLanding_eq] at hmem
        obtain ⟨x, hx⟩ := (hawaits p).1 ((s.awaitsLookup_iff p).2 ⟨b, hmem, hhow⟩)
        exact nomatch hheld.symm.trans hx
    next => exact hs
  | learn l m perm granted work => exact (s.decision_learn l m perm).heldIsOwned (worked work) hawaits
  | choose l m perm i first granted work => exact (s.decision_choose l m perm i).heldIsOwned (worked work) hawaits
  | lookup l granted work => exact (s.decision_lookupForward l).heldIsOwned (worked work) hawaits
  | passLookup p b granted awaits bound =>
    obtain ⟨a, hheld⟩ := (hawaits p).1 awaits
    have hafter : s.afterOtherStep.heldIsOwned := flow s.flow_afterOtherStep
    have hsupply := State.heldIsOwned_supply hafter hheld (State.answeredBinding_how s.afterOtherStep p b)
      (s.afterOtherStep.word2 (s.afterOtherStep.answeredBinding p b).1.receiver)
    unfold State.answerLookup State.countIf
    dsimp only
    generalize (s.afterOtherStep.bindPass p _).releaseRead _ = u at hsupply ⊢
    split <;> exact State.heldIsOwned_of_flow (s := u) rfl hsupply
  | passStartHoldExpiry =>
    unfold State.passStartHoldExpiry
    split
    next a p hheld =>
      split
      · exact hs
      next b bound =>
        have hsupply := State.heldIsOwned_supply hs hheld b.lateBinding_how (s.word2 b.lateBinding.receiver)
        generalize (s.bindPass p b.lateBinding).releaseRead _ = u at hsupply ⊢
        exact State.heldIsOwned_of_flow (s := u) rfl hsupply
    next => exact hs
  | deadline k d => exact ⟨hcount, hawaits⟩
  | outcomeJob o rest live queue => exact flow (State.flow_applyOutcome _ o)
  | sampleExpiry => exact flow s.flow_sampleExpiry
  | sweepBegin => exact flow rfl
  | sweepVisit i => exact flow ((State.flow_advanceSweep _ i).trans (s.flow_visitLink i))
  | purgeWindow => exact flow s.flow_purgeWindowExpiry
  | walkerStep w => exact flow ((State.flow_walkerStep _ w).trans s.flow_afterOtherStep)

/-- Settles O59: an access is held with the landing or the lookup that it waits for, and released with its verdict or its word. -/
theorem heldAccessStaysOwned : Obligations.HeldAccessStaysOwned := fun _ _ hs h =>
  step_keeps (fun _ _ h => h) (fun _ _ hs h => h.heldIsOwned hs) hs h

end Sys2Proof.Machine
end

section
/-! PROOFS. The state after a power-on reset (O2, O60), and the three hardware reset rows (O3). -/

namespace Sys2Proof.Machine

variable {s t : State}

/-! ### Tables after a power-on reset -/

/-- Every slot record is VACANT. -/
theorem State.reset_slot (k : SlotNo) : State.reset.slot k = SlotRecord.vacant := by
  simp only [State.slot, State.reset, Vector.getElem_replicate]

/-- Every link is FREE. -/
theorem State.reset_link (i : LinkIx) : State.reset.link i = Link.free := by
  simp only [State.link, State.reset, Vector.getElem_replicate]

/-- Every route entry is EMPTY. -/
theorem State.reset_route (r : RouteIx) : State.reset.route r = RouteEntry.empty := by
  simp only [State.route, State.reset, Vector.getElem_replicate]

/-- Every counter is 0. -/
theorem State.reset_counter (c : Counter) : State.reset.counter c = 0 := by
  simp only [State.counter, State.reset, Vector.getElem_replicate]

/-- No initiator has a role. -/
theorem State.reset_role (i : Initiator) : State.reset.role i = .ignored := by
  simp only [State.role, State.reset, BusTap.reset, Vector.getElem_replicate]

/-- No region is present. -/
theorem State.reset_region (j : Fin 4) : State.reset.bus.regions[j.val] = none := by
  simp only [State.reset, BusTap.reset, Vector.getElem_replicate]

/-- No slot is in use. -/
theorem State.reset_slotCount : State.reset.slotCount = 0 := by
  unfold State.slotCount
  rw [totalSlots_eq]
  simp [State.reset, BusTap.reset, regionCount]

/-- Nothing runs. -/
theorem State.reset_quiet : State.reset.quiet := State.reset.blockReset_quiet

/-- Settles O2: each part of the reset state is a constant, and the report words are evaluated on it. -/
theorem resetLeavesTable2 : Obligations.ResetLeavesTable2 := by
  have hreport : ∀ w : Nat, w < 256 → State.reset.reportWord w =
      if w = 32 then 0x0A17D401 else if w = 34 then 0x01000000 else if w = 40 then 0x20000000 else 0 := by decide +kernel
  have hmailbox (l : Fin 6) : State.reset.mailbox[l.val] = 0 := by simp only [State.reset, Vector.getElem_replicate]
  have hevent (k : Fin 12) : State.reset.events.at k = { pending := false, inService := false, priority := 0 } := by
    simp only [EventUnit.at, State.reset, EventUnit.reset, Vector.getElem_replicate]
  have hirq : State.reset.irqAsserted = false := by decide
  exact ⟨State.reset_role, State.reset_region, State.reset_slotCount, State.reset_quiet, State.reset_slot, rfl, State.reset_link,
    rfl, State.reset_route, rfl, rfl, rfl, rfl, rfl, rfl, Settings.default_inRange, rfl, hmailbox, hreport,
    State.reset_counter, hevent, rfl, rfl, rfl, hirq, rfl, rfl, rfl, rfl, rfl, rfl, rfl, rfl⟩

/-! ### The invariants after a power-on reset -/

/-- The lists are empty. -/
theorem State.reset_withinCapacity : State.reset.withinCapacity := by
  refine ⟨Nat.zero_le _, Nat.zero_le _, Nat.zero_le _, Nat.zero_le _, Nat.zero_le _, Nat.zero_le _, fun r => ?_, List.nodup_nil,
    fun _ h => (nomatch h)⟩
  rw [State.reset_route]
  exact Nat.zero_le _

/-- The numbers are in range. -/
theorem State.reset_inRange : State.reset.inRange := by
  refine ⟨Settings.default_inRange, fun i => ?_, fun _ h => (nomatch h), fun r => ?_, fun _ h => (nomatch h), List.Pairwise.nil,
    fun _ h => (nomatch h), fun j r h => ?_, fun c => ?_, Nat.zero_le _, Nat.zero_le _, fun h => (nomatch h), fun h => (nomatch h),
    fun _ h => (nomatch h)⟩
  · rw [State.reset_link]
    exact Link.free_inRange
  · rw [State.reset_route]
    exact RouteEntry.taken_inRange 0 none false
  · exact nomatch (State.reset_region j).symm.trans h
  · rw [State.reset_counter]
    exact Nat.zero_le _

/-- The tables hold nothing. -/
theorem State.reset_noDuplicates : State.reset.noDuplicates := by
  have hfree (i : LinkIx) : ¬(State.reset.link i).state ≠ .free := by
    rw [State.reset_link]
    exact fun h => h rfl
  refine ⟨fun i _ hi => absurd hi (hfree i), fun i hi => absurd hi (hfree i), fun r => ?_, List.nodup_nil, List.nodup_nil,
    List.nodup_nil, List.nodup_nil, fun i _ _ hi => ?_, fun j r h => ?_, fun j _ q _ _ h => ?_, ?_⟩
  · rw [State.reset_route]
    exact List.nodup_nil
  · exact nomatch (State.reset_role i).symm.trans hi
  · exact nomatch (State.reset_region j).symm.trans h
  · exact nomatch (State.reset_region j).symm.trans h
  · exact Nat.le_trans (Nat.le_of_eq State.reset_slotCount) (Nat.zero_le _)

/-- The route entries name no link. -/
theorem State.reset_routesNameLinks : State.reset.routesNameLinks := by
  refine ⟨fun r i h => ?_, fun r _ => State.reset_route r, fun _ h => (nomatch h), fun _ h => (nomatch h), fun _ => rfl⟩
  rw [State.reset_route] at h
  exact absurd h (RouteEntry.not_empty_names i)

/-- The route table has no destination. -/
theorem State.reset_destinationsUnique : State.reset.destinationsUnique := by
  have hempty (r : RouteIx) : ¬(State.reset.route r).state ≠ .empty := by
    rw [State.reset_route]
    exact fun h => h rfl
  refine ⟨fun i _ hi => absurd hi (hempty i), fun i hi => absurd hi (hempty i), fun r => ?_, fun r _ => State.reset_route r,
    fun _ h => (nomatch h), fun h => (nomatch h), fun _ => rfl⟩
  rw [State.reset_route]
  exact ⟨fun h => (nomatch h), fun h => (nomatch h)⟩

/-- Settles O60: after a power-on reset tables and lists are empty and nothing runs. -/
theorem invariantsHoldAtReset : Obligations.InvariantsHoldAtReset :=
  ⟨State.reset_mem_wf, State.reset_withinCapacity, State.reset_inRange, State.reset_noDuplicates,
    fun _ => State.reset_quiet, State.reset_routesNameLinks, State.reset_destinationsUnique,
    State.reset.passesOwned_blockReset, State.reset.heldIsOwned_blockReset⟩

/-! ### The hardware reset rows -/

/-- A landing write held as a hardware reset begins is released unaltered, and its owner's work is discarded (R24). -/
theorem State.discardWork_landing {a : WordAddr} {d : Word} {be : Enables} {n : LinkName}
    (h : s.bus.held = some (.landing a d be n)) :
    s.discardWork =
      { s with
        mem := s.mem.writeWord a d be, bus := { s.bus with held := none }
        slots := Vector.replicate 512 SlotRecord.vacant, verdicts := VerdictUnit.reset
        overlay := { s.overlay with bindings := Vector.replicate 3 none } } := by
  unfold State.discardWork State.releaseUnaltered
  rw [h]
  rfl

/-- A word-2 read held as a hardware reset begins returns memory's word, and its owner's work is discarded (R24). -/
theorem State.discardWork_passStart {a : WordAddr} {p : Port} (h : s.bus.held = some (.passStart a p)) :
    s.discardWork =
      { s with
        bus := { s.bus with held := none, readData := s.mem.readWord a }
        slots := Vector.replicate 512 SlotRecord.vacant, verdicts := VerdictUnit.reset
        overlay := { s.overlay with bindings := Vector.replicate 3 none } } := by
  unfold State.discardWork State.releaseUnaltered
  rw [h]
  rfl

/-- The beginning of a hardware reset keeps the level of the RESET line. -/
theorem State.discardWork_resetLow (s : State) : s.discardWork.bus.resetLow = s.bus.resetLow := by
  unfold State.discardWork State.releaseUnaltered
  split
  case h_1 => rfl
  case h_2 => rfl
  case h_3 => rfl

/-- Supplies stable with RESET high: the reset ends. -/
theorem State.powerStable_high (straps : Fin 8) (h : s.bus.resetLow = false) :
    s.powerStable straps = s.discardWork.endReset straps ResetCause.power := by
  simp only [State.powerStable, h, Bool.false_eq_true, if_false]

/-- Supplies stable with RESET low: the reset goes on until the line's release. -/
theorem State.powerStable_low (straps : Fin 8) (h : s.bus.resetLow = true) :
    s.powerStable straps = { s.discardWork with bus := { s.discardWork.bus with power := .lineLow } } := by
  simp only [State.powerStable, h, if_true]

/-- RESET goes high with the supplies stable: the reset ends with cause LINE. -/
theorem State.resetReleased_ended (straps : Fin 8) (h : s.bus.resetLow = true) (hp : s.bus.power = .ended) :
    s.resetReleased straps = s.endReset straps (s.cause.again .line) := by
  simp only [State.resetReleased, h, hp, if_true]

/-- RESET goes high after a power-on reset that it carried on: the reset ends with cause POWER. -/
theorem State.resetReleased_lineLow (straps : Fin 8) (h : s.bus.resetLow = true) (hp : s.bus.power = .lineLow) :
    s.resetReleased straps = s.endReset straps ResetCause.power := by
  simp only [State.resetReleased, h, hp, if_true]

/-- RESET goes high while the supplies are not stable: nothing ends. -/
theorem State.resetReleased_rising (straps : Fin 8) (h : s.bus.resetLow = true) (hp : s.bus.power = .rising) :
    s.resetReleased straps = { s with bus := { s.bus with resetLow := false } } := by
  simp only [State.resetReleased, h, hp, if_true]

/-- A release with RESET not low does nothing. -/
theorem State.resetReleased_high (straps : Fin 8) (h : s.bus.resetLow = false) : s.resetReleased straps = s := by
  unfold State.resetReleased
  rw [if_neg (by simp [h])]

/-- Settles O3: a reset's beginning releases the held access and discards its work, and its end resets every block. -/
theorem hardwareResetResult : Obligations.HardwareResetResult := by
  refine ⟨fun straps s hfree => ⟨?applied, fun hhigh => ?stable, fun hlow => ?stableLow, ?asserted,
    fun hlow => ⟨fun hp => ?line, fun hp => ?power, fun hp => ?rising⟩, fun hhigh => ?notLow⟩, fun s a d be n hheld c hc => ?landing,
    fun s a p hheld c hc => ?passStart, fun straps s => ?stableHeld⟩
  case applied =>
    show Host.Outcome.next s.powerApplied = _
    unfold State.powerApplied
    rw [State.discardWork_free hfree]
  case stable =>
    show Host.Outcome.next (s.powerStable straps) = _
    rw [State.powerStable_high straps hhigh, State.discardWork_free hfree]
    rfl
  case stableLow =>
    show Host.Outcome.next (s.powerStable straps) = _
    rw [State.powerStable_low straps hlow, State.discardWork_free hfree]
  case asserted =>
    show Host.Outcome.next s.resetAsserted = _
    unfold State.resetAsserted
    rw [State.discardWork_free hfree]
  case line =>
    show Host.Outcome.next (s.resetReleased straps) = _
    rw [State.resetReleased_ended straps hlow hp]
    rfl
  case power =>
    show Host.Outcome.next (s.resetReleased straps) = _
    rw [State.resetReleased_lineLow straps hlow hp]
    rfl
  case rising =>
    show Host.Outcome.next (s.resetReleased straps) = _
    rw [State.resetReleased_rising straps hlow hp]
  case notLow =>
    show Host.Outcome.next (s.resetReleased straps) = _
    rw [State.resetReleased_high straps hhigh]
  case landing =>
    simp only [List.mem_cons, List.not_mem_nil, or_false] at hc
    rcases hc with rfl | rfl
    · refine ⟨s.resetAsserted, rfl, ?_⟩
      unfold State.resetAsserted
      rw [State.discardWork_landing hheld]
      exact ⟨rfl, rfl, .inl rfl, rfl, rfl, rfl, rfl⟩
    · refine ⟨s.powerApplied, rfl, ?_⟩
      unfold State.powerApplied
      rw [State.discardWork_landing hheld]
      exact ⟨rfl, rfl, .inr nofun, rfl, rfl, rfl, rfl⟩
  case passStart =>
    have hbinding (t : State) (h : t.overlay.bindings = Vector.replicate 3 none) : t.binding p = none := by
      simp only [State.binding, h, Vector.getElem_replicate]
    simp only [List.mem_cons, List.not_mem_nil, or_false] at hc
    rcases hc with rfl | rfl
    · refine ⟨s.resetAsserted, rfl, ?_⟩
      unfold State.resetAsserted
      rw [State.discardWork_passStart hheld]
      exact ⟨rfl, rfl, rfl, .inl rfl, rfl, rfl, hbinding _ rfl⟩
    · refine ⟨s.powerApplied, rfl, ?_⟩
      unfold State.powerApplied
      rw [State.discardWork_passStart hheld]
      exact ⟨rfl, rfl, rfl, .inr nofun, rfl, rfl, hbinding _ rfl⟩
  case stableHeld =>
    refine ⟨s.powerStable straps, rfl, ?_⟩
    cases hr : s.bus.resetLow with
    | false =>
      rw [State.powerStable_high straps hr]
      refine ⟨rfl, fun _ => ⟨State.reset_counter, rfl⟩, fun a d be n h => ?_, fun a p h => ?_⟩
      · rw [State.discardWork_landing h]
        rfl
      · rw [State.discardWork_passStart h]
        exact ⟨rfl, rfl⟩
    | true =>
      rw [State.powerStable_low straps hr]
      refine ⟨congrArg Flow.held s.flow_discardWork, nofun, fun a d be n h => ?_, fun a p h => ?_⟩
      · rw [State.discardWork_landing h]
      · rw [State.discardWork_passStart h]
        exact ⟨rfl, rfl⟩

end Sys2Proof.Machine
end

section
/-! PROOFS. Accesses on the port: during a hardware reset, by address and role, and to the control strip (O4, O5, O7, O8). -/

namespace Sys2Proof.Machine

variable {s t : State}

/-! ### During a hardware reset -/

/-- During a hardware reset no step is granted. -/
theorem State.granted_reset (h : s.inReset = true) (r : Requester) : s.granted r = false := by
  simp [State.granted, h]

/-- During a hardware reset no class-3 step takes place. -/
theorem State.commandStep_reset (h : s.inReset = true) (code : Byte) (f : State → State) : s.commandStep code f = s := by
  simp [State.commandStep, State.granted_reset h]

/-- During a hardware reset, with no access held, no block of the part makes a step (R158). -/
theorem exec_ownRow_reset (h : s.inReset = true) (held : s.bus.held = none) {k : SlotNo} {c : Instr} (hc : c ∈ ownRows k) :
    exec c s = .next s := by
  have hstep {t : State} (ht : t = s) : (Host.Outcome.next t : Host.Outcome State Fault Refusal) = .next s := by rw [ht]
  simp only [ownRows, List.mem_cons, List.not_mem_nil, or_false] at hc
  rcases hc with rfl | rfl | rfl | rfl | rfl | rfl | rfl | rfl | rfl | rfl | rfl | rfl | rfl | rfl | rfl | rfl | rfl | rfl | rfl
  · exact hstep (by simp only [State.takeWaiting, h, Bool.true_or, if_true])
  · exact hstep (by simp only [State.landingHoldExpiry, held])
  · exact hstep (by simp only [State.learningStep, State.granted_reset h, Bool.false_eq_true, if_false])
  · exact hstep (by simp only [State.choosingStep, State.granted_reset h, Bool.false_eq_true, if_false])
  · exact hstep (by simp only [State.lookupStep, State.granted_reset h, Bool.false_eq_true, if_false])
  · exact hstep (by simp only [State.lookupPassStart, State.granted_reset h, Bool.false_eq_true, if_false])
  · exact hstep (by simp only [State.passStartHoldExpiry, held])
  · exact hstep (State.commandStep_reset h _ _)
  · exact hstep (State.commandStep_reset h _ _)
  · exact hstep (State.commandStep_reset h _ _)
  · exact hstep (State.commandStep_reset h _ _)
  · exact hstep (State.commandStep_reset h _ _)
  · exact hstep (by simp only [State.expireDeadline, h, if_true])
  · exact hstep (by simp only [State.outcomeJob, h, Bool.or_true, if_true])
  · exact hstep (by simp only [State.sampleExpiry, h, if_true])
  · exact hstep (by simp only [State.sweepBegin, h, Bool.not_true, Bool.and_false, Bool.false_eq_true, if_false])
  · exact hstep (by simp only [State.sweepVisit, h, if_true])
  · exact hstep (by simp only [State.purgeWindowExpiry, h, if_true])
  · exact hstep (by simp only [State.walkerStep, State.granted_reset h, Bool.false_eq_true, if_false])

/-- A write to the strip during a hardware reset reaches memory alone. -/
theorem State.onPort_stripWrite_reset (h : s.inReset = true) (held : s.bus.held = none) (w : Fin 256) (d : Word) (be : Enables)
    (f : State → State) :
    s.onPort (fun t => t.stripWrite w d be f) = { s with mem := s.mem.writeWord (stripAddr s.bus.position w) d be } := by
  rw [State.onPort_free held, State.stripWrite_reset h]

/-- Settles O4: during a hardware reset an access reaches memory alone, and no block acts. -/
theorem partIsInertDuringReset : Obligations.PartIsInertDuringReset := by
  intro s hreset held
  have h : s.inReset = true := State.inReset_iff.2 hreset
  have strip (w : Fin 256) (d : Word) (be : Enables) (f : State → State) :
      (Host.Outcome.next (s.onPort fun t => t.stripWrite w d be f) : Host.Outcome State Fault Refusal) =
        .next { s with mem := s.mem.writeWord (stripAddr s.bus.position w) d be } := by
    rw [State.onPort_stripWrite_reset h held]
  refine ⟨by simp [State.irqAsserted, h], fun a c hc => ?write, fun a c hc => ?read, fun i l d be => strip _ d be _,
    fun i d be => strip _ d be _, fun i d be => strip _ d be _, fun i w d be => strip _ d be _, fun i be => ?claim,
    fun go g hg => ?go, fun go code => strip _ _ _ _, fun k c hc => exec_ownRow_reset h held hc⟩
  case write =>
    rw [exec_slotWriteRow hc, State.onPort_free held, State.performWrite_reset h]
    rfl
  case read =>
    rw [exec_slotReadRow hc, State.onPort_free held, State.performRead_reset h]
    rfl
  case claim =>
    show Host.Outcome.next (s.onPort State.claimAccess) = _
    rw [State.onPort_free held, State.claimAccess, if_pos h]
    rfl
  case go =>
    rw [exec_goForm hg]
    exact strip _ _ _ _

/-! ### Slots by address -/

/-- An address lies in a region. -/
def Region.holds (r : Region) (a : Nat) : Prop := r.base.toNat ≤ a ∧ a < r.limit

/-- The slot of an address, when at most one region holds it: the region's place gives the slots before, and the offset the rest
(R5). -/
theorem slotAt_eq_some {rs : List (Option Region)} {a : Nat}
    (unique : ∀ (i j : Nat) (q r : Region), rs[i]? = some (some q) → rs[j]? = some (some r) → q.holds a → r.holds a → i = j)
    (used k w : Nat) :
    slotAt rs used a = some (k, w) ↔
      ∃ (j : Nat) (r : Region), rs[j]? = some (some r) ∧ r.holds a ∧
        k = used + totalSlots (rs.take j) + (a - r.base.toNat) / r.slotSize ∧ w = (a - r.base.toNat) % r.slotSize / 4 := by
  induction rs generalizing used with
  | nil => simp [slotAt]
  | cons head rs ih =>
    have tail : ∀ (i j : Nat) (q r : Region), rs[i]? = some (some q) → rs[j]? = some (some r) → q.holds a → r.holds a → i = j :=
      fun i j q r hi hj hq hr => Nat.succ.inj (unique (i + 1) (j + 1) q r hi hj hq hr)
    have htake (j : Nat) : totalSlots ((head :: rs).take (j + 1)) = regionCount head + totalSlots (rs.take j) := by
      simp [totalSlots]
    have later (hhead : ∀ q, head = some q → ¬q.holds a) :
        slotAt rs (used + regionCount head) a = some (k, w) ↔
          ∃ (j : Nat) (r : Region), (head :: rs)[j]? = some (some r) ∧ r.holds a ∧
            k = used + totalSlots ((head :: rs).take j) + (a - r.base.toNat) / r.slotSize ∧
            w = (a - r.base.toNat) % r.slotSize / 4 := by
      rw [ih tail]
      constructor
      · rintro ⟨j, r, hj, hr, hk, hw⟩
        exact ⟨j + 1, r, hj, hr, by rw [htake]; omega, hw⟩
      · rintro ⟨j, r, hj, hr, hk, hw⟩
        cases j with
        | zero => exact absurd hr (hhead r (Option.some.inj hj))
        | succ j => exact ⟨j, r, hj, hr, by rw [htake] at hk; omega, hw⟩
    cases head with
    | none => exact later fun q h => (nomatch h)
    | some q =>
      unfold slotAt
      split
      next hq =>
        constructor
        · intro h
          cases h
          exact ⟨0, q, rfl, hq, by simp [totalSlots], rfl⟩
        · rintro ⟨j, r, hj, hr, hk, hw⟩
          obtain rfl : 0 = j := unique 0 j q r rfl hj hq hr
          cases Option.some.inj (Option.some.inj hj)
          rw [hk, hw]
          simp [totalSlots]
      next hq => exact later fun r h => by cases h; exact hq

/-- At most one region that fits holds an address (R4). -/
theorem State.regionsFit.unique (h : s.regionsFit) {i j : Fin 4} {q r : Region} (hi : s.bus.regions[i.val] = some q)
    (hj : s.bus.regions[j.val] = some r) {a : Nat} (hq : q.holds a) (hr : r.holds a) : i = j := by
  obtain ⟨-, hapart, -⟩ := h
  obtain ⟨hqa, haq⟩ := hq
  obtain ⟨hra, har⟩ := hr
  refine Classical.byContradiction fun hne => ?_
  rcases hapart i j q r hne hi hj with h | h <;> omega

/-- The descriptors of a place in the list. -/
theorem State.region_getElem? (s : State) (j : Nat) (r : Region) :
    s.bus.regions.toList[j]? = some (some r) ↔ ∃ i : Fin 4, i.val = j ∧ s.bus.regions[i.val] = some r := by
  rw [List.getElem?_eq_some_iff]
  constructor
  · rintro ⟨hj, h⟩
    have hj : j < 4 := by simpa using hj
    exact ⟨⟨j, hj⟩, rfl, by simpa using h⟩
  · rintro ⟨i, rfl, h⟩
    exact ⟨by simp, by simpa using h⟩

/-- The slot and word of an address, by the regions (R5). -/
theorem State.slotOf_eq_some (h : s.regionsFit) (a : WordAddr) (k : SlotNo) (w : Nat) :
    s.slotOf a = some (k, w) ↔ ∃ (j : Fin 4) (r : Region), s.bus.regions[j.val] = some r ∧ r.holds (4 * a.toNat) ∧
      k.val = totalSlots (s.bus.regions.toList.take j.val) + (4 * a.toNat - r.base.toNat) / r.slotSize ∧
      w = (4 * a.toNat - r.base.toNat) % r.slotSize / 4 := by
  have hat := slotAt_eq_some (rs := s.bus.regions.toList) (a := 4 * a.toNat) (fun i j q r hi hj hq hr => by
    obtain ⟨i', rfl, hi'⟩ := (s.region_getElem? i q).1 hi
    obtain ⟨j', rfl, hj'⟩ := (s.region_getElem? j r).1 hj
    exact congrArg Fin.val (h.unique hi' hj' hq hr)) 0 k.val w
  have hslot : s.slotOf a = some (k, w) ↔ slotAt s.bus.regions.toList 0 (4 * a.toNat) = some (k.val, w) := by
    unfold State.slotOf
    split
    next hn => simp [hn]
    next k' w' hs =>
      rw [hs]
      split
      next hk => simp [Fin.ext_iff]
      next hk =>
        refine iff_of_false nofun fun h => hk ?_
        cases h
        exact k.isLt
  rw [hslot, hat]
  constructor
  · rintro ⟨j, r, hj, hr, hk, hw⟩
    obtain ⟨i, rfl, hi⟩ := (s.region_getElem? j r).1 hj
    exact ⟨i, r, hi, hr, by omega, hw⟩
  · rintro ⟨j, r, hj, hr, hk, hw⟩
    exact ⟨j.val, r, (s.region_getElem? j.val r).2 ⟨j, rfl, hj⟩, hr, by omega, hw⟩

/-! ### Classes of accesses that pass to memory -/

/-- The strip word of an address, by bytes (R1). -/
theorem stripWordOf_iff_bytes (n : Fin 8) (a : WordAddr) (w : Fin 256) :
    stripWordOf n a = some w ↔ a.toNat * 4 = n.val * 0x200000 + 0x1FFC00 + 4 * w.val := by
  rw [stripWordOf_eq_some]
  have hbytes := stripAddr_bytes n w
  constructor
  · rintro rfl
    omega
  · intro h
    exact BitVec.eq_of_toNat_eq (by omega)

/-- A word past word 6 is no header word. -/
theorem headerIx_eq_none {w : Nat} (h : w < 2 ∨ 6 < w) : headerIx w = none := by
  unfold headerIx
  rw [dif_neg (by omega)]

/-- A write outside the strip that is not for Slot Capture is plain (R6, R15). -/
theorem State.writeClass_plain {a : WriteAccess} (hstrip : stripWordOf s.bus.position a.addr = none)
    (h : s.engine.state = .transparent ∨ s.slotOf a.addr = none ∨ s.role a.initiator = .ignored ∨
      ∃ k w, s.slotOf a.addr = some (k, w) ∧ (6 < w ∨ (s.role a.initiator = .software ∧ w < 2))) :
    s.writeClass a = .plain := by
  unfold State.writeClass
  rw [hstrip]
  dsimp only
  split
  next hcap =>
    rcases h with h | h | h | ⟨k, w, hslot, hw⟩
    · have := (State.captures_iff.1 hcap).1
      exact absurd h (State.engineRuns_iff.1 this)
    · rw [h]
    · cases s.slotOf a.addr with
      | none => rfl
      | some kw => simp only [h]
    · simp only [hslot]
      cases hrole : s.role a.initiator with
      | ignored => rfl
      | software =>
        have hix : headerIx w = none := headerIx_eq_none (hw.elim .inr fun h => .inl h.2)
        simp only [softwareWriteClass, hix]
      | mesh p =>
        have hw : 6 < w := hw.resolve_right fun h => nomatch hrole.symm.trans h.1
        simp only [State.meshWriteClass, if_neg (show w ≠ 0 by omega), if_neg (show w ≠ 1 by omega), headerIx_eq_none (.inr hw)]
  next => rfl

/-- A slot that is VACANT or FILLING starts no pass (R16). -/
theorem SlotState.startsPass_eq_false {st : SlotState} (h : st = .vacant ∨ st = .filling) : st.startsPass = false := by
  rcases h with rfl | rfl <;> rfl

/-- A header word above word 2. -/
theorem headerIx_above {w : Nat} (h : 2 < w) (h6 : w ≤ 6) : ∃ i : HeaderIx, headerIx w = some i ∧ i ≠ 0 := by
  refine ⟨⟨w - 2, by omega⟩, ?_, fun h => ?_⟩
  · unfold headerIx
    rw [dif_pos (by omega)]
  · have : w - 2 = 0 := congrArg Fin.val h
    omega

/-- A read outside the strip that no pass answers is plain (R6, R15, R16, R18). -/
theorem State.readClass_plain {a : ReadAccess} (hstrip : stripWordOf s.bus.position a.addr = none)
    (h : s.engine.state = .transparent ∨ s.slotOf a.addr = none ∨ s.role a.initiator = .ignored ∨
      s.role a.initiator = .software ∨
      ∃ p k w, s.slotOf a.addr = some (k, w) ∧ s.role a.initiator = .mesh p ∧
        (w < 2 ∨ 6 < w ∨ (w = 2 ∧ ((s.slot k).state = .vacant ∨ (s.slot k).state = .filling)) ∨
          (2 < w ∧ ¬((s.slot k).state = .inSend ∧ (s.slot k).passPort = some p)))) :
    s.readClass a = .plain := by
  unfold State.readClass
  rw [hstrip]
  dsimp only
  split
  next hcap =>
    rcases h with h | h | h | h | ⟨p, k, w, hslot, hrole, hw⟩
    · have := (State.captures_iff.1 hcap).1
      exact absurd h (State.engineRuns_iff.1 this)
    · rw [h]
    · cases s.slotOf a.addr with
      | none => rfl
      | some kw => simp only [h]
    · cases s.slotOf a.addr with
      | none => rfl
      | some kw => simp only [h]
    · simp only [hslot, hrole, State.meshReadClass]
      by_cases h6 : 2 ≤ w ∧ w ≤ 6
      · rcases hw with hw | hw | ⟨rfl, hst⟩ | ⟨hw, hpass⟩
        · omega
        · omega
        · have hix : headerIx 2 = some 0 := rfl
          simp only [hix, if_true, SlotState.startsPass_eq_false hst, Bool.false_eq_true, if_false]
        · obtain ⟨i, hix, hne⟩ := headerIx_above hw h6.2
          simp only [hix, if_neg hne, if_neg hpass]
      · rw [headerIx_eq_none (by omega)]
  next => rfl

/-! ### The words of the strip -/

/-- The strip word of an address is the class of the write. -/
theorem State.writeClass_strip {a : WriteAccess} {w : Fin 256} (h : stripWordOf s.bus.position a.addr = some w) :
    s.writeClass a = .strip w := by
  simp only [State.writeClass, h]

/-- The strip word of an address gives the class of the read. -/
theorem State.readClass_strip {a : ReadAccess} {w : Fin 256} (h : stripWordOf s.bus.position a.addr = some w) :
    s.readClass a = s.stripReadClass w := by
  simp only [State.readClass, h]

/-- A write to word 0 of the strip takes effect as a go write. -/
theorem State.stripEffect_zero (s : State) {w : Fin 256} (h : w.val = 0) (d : Word) (be : Enables) :
    s.stripEffect w d be = s.wordZero d be := by
  unfold State.stripEffect
  rw [if_pos h]

/-- A write to an argument word is latched. -/
theorem State.stripEffect_latch (s : State) {w : Fin 256} {l : Fin 6} (h : w.val = l.val + 1) (d : Word) (be : Enables) :
    s.stripEffect w d be = s.latch l d be := by
  have hl := l.isLt
  unfold State.stripEffect
  rw [if_neg (by omega), dif_pos (by omega)]
  congr 1
  exact Fin.ext (by simp [h])

/-- A write to the claim word completes a source. -/
theorem State.stripEffect_complete (s : State) {w : Fin 256} (h : w.val = 37) (d : Word) (be : Enables) :
    s.stripEffect w d be = s.completeWord d be := by
  unfold State.stripEffect
  rw [if_neg (by omega), dif_neg (by omega), if_pos h]

/-- A write to another strip word takes no effect. -/
theorem State.stripEffect_plain (s : State) {w : Fin 256} (h : 7 ≤ w.val) (hw : w.val ≠ 37) (d : Word) (be : Enables) :
    s.stripEffect w d be = s := by
  unfold State.stripEffect
  rw [if_neg (by omega), dif_neg (by omega), if_neg (fun h => hw h)]

/-- A row that carries a write to a strip word has that word's effect. -/
theorem exec_slotWriteRow_strip {a : WriteAccess} {c : Instr} (hc : c ∈ slotWriteRows a) (held : s.bus.held = none) {w : Fin 256}
    (hw : stripWordOf s.bus.position a.addr = some w) : exec c s = .next (s.anyStripWrite w a.data a.be) := by
  rw [exec_slotWriteRow hc, State.onPort_free held]
  simp only [State.performWrite, State.writeClass_strip hw]

/-- A row that an access carries waits while another access is held (log 2). -/
theorem exec_portRow_held (h : s.bus.held ≠ none) {w : WriteAccess} {r : ReadAccess} {go : GoAccess} {code : Byte} {latch : Fin 6}
    {word : Fin 256} {c : Instr} (hc : c ∈ portRows w r go code latch word) : exec c s = .next s := by
  obtain ⟨x, hx⟩ := Option.ne_none_iff_exists'.1 h
  have waits (f : State → State) :
      (Host.Outcome.next (s.onPort f) : Host.Outcome State Fault Refusal) = .next s := by rw [State.onPort_held hx]
  simp only [portRows, List.mem_append, List.mem_map] at hc
  rcases hc with ((hc | hc) | ⟨g, hg, rfl⟩) | hc
  · rw [exec_slotWriteRow hc]
    exact waits _
  · rw [exec_slotReadRow hc]
    exact waits _
  · rw [exec_goForm hg]
    exact waits _
  · simp only [List.mem_cons, List.not_mem_nil, or_false] at hc
    rcases hc with rfl | rfl | rfl | rfl | rfl | rfl <;> exact waits _

/-- Settles O5: the strip and the regions give an access its class, and the class its effect. -/
theorem busTapRoutesAccesses : Obligations.BusTapRoutesAccesses := by
  refine ⟨fun n w => ?_, stripWordOf_iff_bytes, fun s a k w hfit => ?slots,
    fun a s free hstrip h c hc => ?plainWrite, fun a s free hstrip h c hc => ?plainRead, fun a s w free hw c hc => ?stripRead,
    fun a s w free hw c hc => ?stripWrite, fun s => by simp [State.cReady], fun w r go code latch word s h c hc => exec_portRow_held h hc⟩
  · rw [stripAddr_bytes]
    omega
  case slots => simpa only [Region.holds, Region.limit, Region.slotSize, and_assoc] using State.slotOf_eq_some hfit a k w
  case plainWrite =>
    rw [exec_slotWriteRow hc, State.onPort_free free.1, State.performWrite, State.writeClass_plain hstrip h]
    rfl
  case plainRead =>
    rw [exec_slotReadRow hc, State.onPort_free free.1, State.performRead, State.readClass_plain hstrip h]
    rfl
  case stripRead =>
    obtain ⟨held, live⟩ := free
    have hread : exec c s = .next (s.performRead a) := by rw [exec_slotReadRow hc, State.onPort_free held]
    rw [hread, State.performRead, State.readClass_strip hw]
    refine ⟨fun h32 h127 h37 => ?_, fun h37 => ?_, fun hout => ?_⟩
    · have hclass : s.stripReadClass w = .report w := by
        simp only [State.stripReadClass, live, Bool.false_eq_true, if_false, if_neg (show w.val ≠ Config.claimWord from h37),
          if_pos (And.intro h32 h127)]
      rw [hclass]
      rfl
    · have hclass : s.stripReadClass w = .claim := by
        simp only [State.stripReadClass, live, Bool.false_eq_true, if_false, if_pos (show w.val = Config.claimWord from h37)]
      rw [hclass]
      show _ = Host.Outcome.next (s.onPort State.claimAccess)
      rw [State.onPort_free held, State.claimAccess, if_neg (by simp [live])]
    · have h37 : w.val ≠ Config.claimWord := by
        show w.val ≠ 37
        omega
      have hclass : s.stripReadClass w = .plain := by
        simp only [State.stripReadClass, live, Bool.false_eq_true, if_false, if_neg h37,
          if_neg (show ¬(32 ≤ w.val ∧ w.val ≤ 127) by omega)]
      rw [hclass]
      rfl
  case stripWrite =>
    obtain ⟨held, live⟩ := free
    have row {f g : State → State} {v : Fin 256} (hv : v = w) (hfg : ∀ u, f u = g u) :
        (Host.Outcome.next (s.stripWrite w a.data a.be f) : Host.Outcome State Fault Refusal) =
          .next (s.onPort fun t => t.stripWrite v a.data a.be g) := by
      rw [State.onPort_free held, hv, funext hfg]
    rw [exec_slotWriteRow_strip hc held hw]
    refine ⟨fun h => row (Fin.ext h.symm) fun u => u.stripEffect_zero h _ _,
      fun l h => row (Fin.ext h.symm) fun u => u.stripEffect_latch h _ _, fun h => row rfl fun _ => rfl,
      fun h => row (Fin.ext h.symm) fun u => u.stripEffect_complete h _ _⟩

/-! ### Writes to the strip -/

/-- A byte of merged words. -/
theorem byteOf_mergeBytes (be : Enables) (old new : Word) (j : Fin 4) :
    byteOf (mergeBytes be old new) j = if be.getLsbD (3 - j.val) then byteOf new j else byteOf old j := by
  unfold byteOf
  rw [mergeBytes_byte be old new (by omega) (by omega), Nat.mul_div_cancel_left _ (by decide)]

/-- A code that no row lists is an unknown command. -/
theorem commandBody_unlisted {code : Byte} (h : code ∉ listedCodes) : commandBody code = State.unknown := by
  simp only [listedCodes, List.mem_cons, List.not_mem_nil, or_false, not_or] at h
  unfold commandBody
  simp only [h, if_false]

/-- Settles O7: each strip word has its own effect, and a code not listed completes at once. -/
theorem stripWrites : Obligations.StripWrites := by
  refine ⟨fun i l d be s free => ?latch, byteOf_mergeBytes, fun i w d be s free h7 h37 => ?report,
    fun i d be s free hform => ?stray, fun go code s takes hcode => ?unknown⟩
  case latch =>
    show Host.Outcome.next (s.onPort _) = _
    rw [State.onPort_free free.1, State.stripWrite_free free.2]
    rfl
  case report =>
    show Host.Outcome.next (s.onPort fun t => t.anyStripWrite w d be) = _
    rw [State.onPort_free free.1, State.anyStripWrite, State.stripWrite_free free.2]
    by_cases hw : w.val = 37
    · rw [State.stripEffect_complete _ hw, State.completeWord, h37 hw]
      rfl
    · rw [State.stripEffect_plain _ h7 hw]
  case stray =>
    show Host.Outcome.next (s.onPort _) = _
    have hkey : isGoForm d be = false := by
      have hkeyword : Config.goKey = 0x6E2D#16 := rfl
      rcases hform with h | h <;> simp [isGoForm, allEnables, hkeyword, h]
    rw [State.onPort_free free.1, State.stripWrite_free free.2]
    simp only [State.wordZero, hkey, Bool.false_eq_true, if_false]
    rfl
  case unknown =>
    show Host.Outcome.next (s.onPort fun t => t.goWrite code go.tag (commandBody code)) = _
    rw [State.goWrite_taken takes, commandBody_unlisted hcode]
    rfl

end Sys2Proof.Machine
end

section
/-! PROOFS. The words of the report window and the refusal word (O6, O8). -/

namespace Sys2Proof.Machine

variable {s t : State}

/-! ### Words of placed fields -/

/-- A number placed where it has room. -/
theorem place_toNat {lo n : Nat} (h : n * 2 ^ lo < 2 ^ 32) : (place lo n).toNat = n * 2 ^ lo := by
  have hn : n < 2 ^ 32 := Nat.lt_of_le_of_lt (Nat.le_mul_of_pos_right n (Nat.two_pow_pos lo)) h
  unfold place
  rw [BitVec.toNat_shiftLeft, BitVec.toNat_ofNat, Nat.mod_eq_of_lt hn, Nat.shiftLeft_eq, Nat.mod_eq_of_lt h]

/-- A flag as a placed number. -/
theorem placeFlag_eq (lo : Nat) (b : Bool) : placeFlag lo b = place lo (if b = true then 1 else 0) := by
  cases b
  · simp [placeFlag, place]
  · rfl

/-- Fields given from the highest place down: each has room above the next one's place. -/
def fieldsFit : Nat → List (Nat × Nat) → Prop
  | _, [] => True
  | k, (lo, n) :: fs => lo ≤ k ∧ n * 2 ^ lo < 2 ^ k ∧ fieldsFit lo fs

/-- A word and a field below it. -/
theorem toNat_or_of_dvd {w x : Word} {k : Nat} (hw : 2 ^ k ∣ w.toNat) (hx : x.toNat < 2 ^ k) :
    (w ||| x).toNat = w.toNat + x.toNat := by
  obtain ⟨c, hc⟩ := hw
  rw [BitVec.toNat_or, hc, ← Nat.two_pow_add_eq_or_of_lt hx]

/-- Fields that fit below a word add to it. -/
theorem toNat_foldl_or {k : Nat} (hk : k ≤ 32) {w : Word} (hw : 2 ^ k ∣ w.toNat) {fs : List (Nat × Nat)} (h : fieldsFit k fs) :
    ((fs.map fun f => place f.1 f.2).foldl (fun w f => w ||| f) w).toNat = w.toNat + (fs.map fun f => f.2 * 2 ^ f.1).sum := by
  induction fs generalizing k w with
  | nil => rfl
  | cons f fs ih =>
    obtain ⟨lo, n⟩ := f
    obtain ⟨hlo, hn, hfs⟩ := h
    have hplace : (place lo n).toNat = n * 2 ^ lo :=
      place_toNat (Nat.lt_of_lt_of_le hn (Nat.pow_le_pow_right (by decide) hk))
    have hor : (w ||| place lo n).toNat = w.toNat + n * 2 ^ lo := by
      rw [toNat_or_of_dvd hw (hplace ▸ hn), hplace]
    have hdvd : 2 ^ lo ∣ (w ||| place lo n).toNat := by
      rw [hor]
      exact Nat.dvd_add (Nat.dvd_trans (Nat.pow_dvd_pow 2 hlo) hw) (Nat.dvd_mul_left _ _)
    have := ih (Nat.le_trans hlo hk) hdvd hfs
    simp only [List.map_cons, List.foldl_cons, List.sum_cons]
    rw [this, hor]
    omega

/-- Fields that fit a word, as a number. -/
theorem packed_toNat {fs : List (Nat × Nat)} (h : fieldsFit 32 fs) :
    (packed (fs.map fun f => place f.1 f.2)).toNat = (fs.map fun f => f.2 * 2 ^ f.1).sum := by
  have := toNat_foldl_or (Nat.le_refl 32) (w := 0) (Nat.dvd_zero _) h
  simpa [packed] using this

/-! ### Counts of links -/

/-- The count of the links in a state (R64). -/
theorem State.linksIn_eq (s : State) (st : LinkState) : s.linksIn st = s.entriesIn st := by
  unfold State.linksIn State.entriesIn allLinks
  rw [List.countP_eq_length_filter]
  congr 2

/-- There are 32 links. -/
theorem State.entriesIn_le (s : State) (st : LinkState) : s.entriesIn st ≤ 32 :=
  Nat.le_trans (List.length_filter_le _ _) (Nat.le_of_eq List.length_finRange)

/-- A list without repetitions is no longer than a list that holds its elements. -/
theorem length_le_of_nodup_of_subset {α : Type} [DecidableEq α] {xs ys : List α} (h : xs.Nodup) (hsub : ∀ x ∈ xs, x ∈ ys) :
    xs.length ≤ ys.length := by
  induction xs generalizing ys with
  | nil => exact Nat.zero_le _
  | cons x xs ih =>
    obtain ⟨hx, hxs⟩ := List.nodup_cons.1 h
    have hmem : x ∈ ys := hsub x List.mem_cons_self
    have herase : xs.length ≤ (ys.erase x).length := by
      refine ih hxs fun y hy => (List.mem_erase_of_ne ?_).2 (hsub y (List.mem_cons_of_mem x hy))
      rintro rfl
      exact hx hy
    have hpos : 0 < ys.length := List.length_pos_of_mem hmem
    rw [List.length_erase_of_mem hmem] at herase
    rw [List.length_cons]
    omega

/-- A set of link indexes holds 32 at most. -/
theorem length_le_of_nodup {is : List LinkIx} (h : is.Nodup) : is.length ≤ 32 := by
  have hle := length_le_of_nodup_of_subset h fun i _ => List.mem_finRange i
  rwa [List.length_finRange] at hle

/-! ### The report words as numbers -/

/-- A flag as a number. -/
theorem flag_le (b : Bool) : (if b = true then 1 else 0) ≤ 1 := by cases b <;> decide

/-- A placed flag as a number. -/
theorem flag_mul (b : Bool) (m : Nat) : (if b = true then 1 else 0) * m = if b = true then m else 0 := by
  cases b <;> simp

/-- The engine word (R175). -/
theorem State.engineWord_toNat (h : s.engine.settle ≤ 15) :
    s.engineWord.toNat = s.engine.state.code * 0x1000000 + s.engine.settle * 0x10000 + s.identity.ownNode.toNat := by
  have hcode : s.engine.state.code ≤ 2 := by cases s.engine.state <;> decide
  have hnode := s.identity.ownNode.isLt
  have hfit : fieldsFit 32 [(24, s.engine.state.code), (16, s.engine.settle), (0, s.identity.ownNode.toNat)] := by
    simp only [fieldsFit, and_true]
    omega
  refine (packed_toNat hfit).trans ?_
  simp only [List.map_cons, List.map_nil, List.sum_cons, List.sum_nil]
  omega

/-- The reset cause word (R160). -/
theorem State.causeWord_toNat (h : s.cause.count ≤ 255) :
    (packed [place 24 s.cause.last.code, place 16 s.cause.count]).toNat =
      s.cause.last.code * 0x1000000 + s.cause.count * 0x10000 := by
  have hcode : s.cause.last.code ≤ 3 := by cases s.cause.last <;> decide
  have hfit : fieldsFit 32 [(24, s.cause.last.code), (16, s.cause.count)] := by
    simp only [fieldsFit, and_true]
    omega
  refine (packed_toNat hfit).trans ?_
  simp only [List.map_cons, List.map_nil, List.sum_cons, List.sum_nil]
  omega

/-- The status word (R164). -/
theorem CommandEngine.word_toNat (c : CommandEngine) :
    c.word.toNat =
      c.code.toNat * 0x1000000 + c.tag.toNat * 0x10000 + (if c.tagPresent = true then 2 ^ 15 else 0) +
        (if c.running = true then 2 ^ 8 else 0) + c.result.code := by
  have hcode := c.code.isLt
  have htag := c.tag.isLt
  have hresult : c.result.code ≤ 7 := by cases c.result <;> decide
  have hpresent := flag_le c.tagPresent
  have hrunning := flag_le c.running
  have hfit : fieldsFit 32 [(24, c.code.toNat), (16, c.tag.toNat), (15, if c.tagPresent = true then 1 else 0),
      (8, if c.running = true then 1 else 0), (0, c.result.code)] := by
    simp only [fieldsFit, and_true]
    omega
  unfold CommandEngine.word
  rw [placeFlag_eq, placeFlag_eq]
  refine (packed_toNat hfit).trans ?_
  simp only [List.map_cons, List.map_nil, List.sum_cons, List.sum_nil, ← flag_mul _ (2 ^ 15), ← flag_mul _ (2 ^ 8)]
  omega

/-- The refusal word (R165). -/
theorem RefusalWord.word_toNat (r : RefusalWord) :
    r.word.toNat =
      r.code.toNat * 0x1000000 + r.tag.toNat * 0x10000 + (if r.present = true then 2 ^ 15 else 0) +
        (if r.present = true then 8 else 0) := by
  have hcode := r.code.isLt
  have htag := r.tag.isLt
  have hpresent := flag_le r.present
  have hreason : (if r.present = true then 8 else 0) = (if r.present = true then 1 else 0) * 8 := (flag_mul _ 8).symm
  have hfit : fieldsFit 32 [(24, r.code.toNat), (16, r.tag.toNat), (15, if r.present = true then 1 else 0),
      (0, if r.present = true then 8 else 0)] := by
    simp only [fieldsFit, and_true, hreason]
    omega
  unfold RefusalWord.word
  rw [placeFlag_eq]
  refine (packed_toNat hfit).trans ?_
  simp only [List.map_cons, List.map_nil, List.sum_cons, List.sum_nil, ← flag_mul _ (2 ^ 15)]
  omega

/-- Link summary A (R64). -/
theorem State.linkSummaryA_toNat (s : State) :
    s.linkSummaryA.toNat =
      s.entriesIn .free * 0x1000000 + s.entriesIn .probation * 0x10000 + s.entriesIn .live * 0x100 + s.entriesIn .weak := by
  have hfree := s.entriesIn_le .free
  have hprobation := s.entriesIn_le .probation
  have hlive := s.entriesIn_le .live
  have hweak := s.entriesIn_le .weak
  have hfit : fieldsFit 32 [(24, s.entriesIn .free), (16, s.entriesIn .probation), (8, s.entriesIn .live),
      (0, s.entriesIn .weak)] := by
    simp only [fieldsFit, and_true]
    omega
  unfold State.linkSummaryA
  simp only [State.linksIn_eq]
  refine (packed_toNat hfit).trans ?_
  simp only [List.map_cons, List.map_nil, List.sum_cons, List.sum_nil]
  omega

/-- Link summary B (R64). -/
theorem State.linkSummaryB_toNat (s : State) :
    s.linkSummaryB.toNat = s.entriesIn .lost * 0x1000000 + s.entriesIn .purging * 0x10000 := by
  have hlost := s.entriesIn_le .lost
  have hpurging := s.entriesIn_le .purging
  have hfit : fieldsFit 32 [(24, s.entriesIn .lost), (16, s.entriesIn .purging)] := by
    simp only [fieldsFit, and_true]
    omega
  unfold State.linkSummaryB
  simp only [State.linksIn_eq]
  refine (packed_toNat hfit).trans ?_
  simp only [List.map_cons, List.map_nil, List.sum_cons, List.sum_nil]
  omega

/-- The next entry of a walk as a number, 0 with no walk (R120, log 30). -/
theorem Walker.next_lt (w : Walker) : (w.walk.map fun x => x.next.val).getD 0 < 256 := by
  cases w.walk with
  | none => decide
  | some x => exact x.next.isLt

/-- The walker word (R120). -/
theorem State.walkerWord_toNat (h : s.walker.evict.Nodup) :
    s.walkerWord.toNat =
      (if s.walker.walk.isSome = true then 2 ^ 31 else 0) + ((s.walker.walk.map fun w => w.next.val).getD 0) * 0x10000 +
        s.walker.evict.length * 0x100 + (if s.walker.refresh = true then 2 ^ 2 else 0) +
        (if s.walker.flush = true then 2 ^ 1 else 0) := by
  have hevict := length_le_of_nodup h
  have hnext := s.walker.next_lt
  have hwalk := flag_le s.walker.walk.isSome
  have hrefresh := flag_le s.walker.refresh
  have hflush := flag_le s.walker.flush
  have hfit : fieldsFit 32 [(31, if s.walker.walk.isSome = true then 1 else 0),
      (16, (s.walker.walk.map fun w => w.next.val).getD 0), (8, s.walker.evict.length),
      (2, if s.walker.refresh = true then 1 else 0), (1, if s.walker.flush = true then 1 else 0)] := by
    simp only [fieldsFit, and_true]
    omega
  unfold State.walkerWord presentBit placeOpt
  rw [placeFlag_eq, placeFlag_eq, placeFlag_eq]
  refine (packed_toNat hfit).trans ?_
  simp only [List.map_cons, List.map_nil, List.sum_cons, List.sum_nil, ← flag_mul _ (2 ^ 31), ← flag_mul _ (2 ^ 2),
    ← flag_mul _ (2 ^ 1)]
  omega

/-- The snapshot header (R40). -/
theorem Snapshot.header_toNat (p : Snapshot) :
    p.header.toNat = p.kind.code * 0x1000000 + p.tag.toNat * 0x10000 + p.key.toNat := by
  have hkind : p.kind.code ≤ 4 := by cases p.kind <;> decide
  have htag := p.tag.isLt
  have hkey := p.key.isLt
  have hfit : fieldsFit 32 [(24, p.kind.code), (16, p.tag.toNat), (0, p.key.toNat)] := by
    simp only [fieldsFit, and_true]
    omega
  refine (packed_toNat hfit).trans ?_
  simp only [List.map_cons, List.map_nil, List.sum_cons, List.sum_nil]
  omega

/-- Every place of the counters is a counter's. -/
theorem counter_le (h : ∀ c, s.counter c ≤ 65535) (k : Nat) (hk : k < 16) : s.counters[k] ≤ 65535 := by
  have hix : ∀ i : Fin 16, ∃ c : Counter, c.ix = i
    | 0 => ⟨.framesLanded, rfl⟩ | 1 => ⟨.forward, rfl⟩ | 2 => ⟨.deliver, rfl⟩ | 3 => ⟨.floodRebroadcast, rfl⟩
    | 4 => ⟨.absorb, rfl⟩ | 5 => ⟨.drops, rfl⟩ | 6 => ⟨.checkFailures, rfl⟩ | 7 => ⟨.lateVerdicts, rfl⟩
    | 8 => ⟨.lateBindings, rfl⟩ | 9 => ⟨.staleSends, rfl⟩ | 10 => ⟨.outcomesLost, rfl⟩ | 11 => ⟨.strayGoWrites, rfl⟩
    | 12 => ⟨.sweepOverruns, rfl⟩ | 13 => ⟨.tableFull, rfl⟩ | 14 => ⟨.abandoned, rfl⟩ | 15 => ⟨.barred, rfl⟩
    | ⟨n + 16, hn⟩ => absurd hn (by omega)
  obtain ⟨c, hc⟩ := hix ⟨k, hk⟩
  have hval : c.ix.val = k := congrArg Fin.val hc
  simpa [State.counter, hval] using h c

/-- A counter word (R176). -/
theorem State.counterWord_toNat (h : ∀ c, s.counter c ≤ 65535) (k : Fin 8) :
    (s.counterWord k).toNat = s.counters[2 * k.val] * 0x10000 + s.counters[2 * k.val + 1] := by
  have hhi : s.counters[2 * k.val] ≤ 65535 := counter_le h (2 * k.val) (by omega)
  have hlo : s.counters[2 * k.val + 1] ≤ 65535 := counter_le h (2 * k.val + 1) (by omega)
  have hfit : fieldsFit 32 [(16, s.counters[2 * k.val]), (0, s.counters[2 * k.val + 1])] := by
    simp only [fieldsFit, and_true]
    omega
  refine (packed_toNat hfit).trans ?_
  simp only [List.map_cons, List.map_nil, List.sum_cons, List.sum_nil]
  omega

/-- A counter word of the report window (R176). -/
theorem State.reportWord_counter (s : State) (k : Fin 8) : s.reportWord (44 + k.val) = s.counterWord k := by
  have hk : 44 ≤ 44 + k.val ∧ 44 + k.val ≤ 51 := by omega
  unfold State.reportWord
  rw [dif_pos hk]
  congr 1
  exact Fin.ext (Nat.add_sub_cancel_left 44 k.val)

/-- A snapshot word of the report window (R40). -/
theorem State.reportWord_area (s : State) (k : Fin 16) : s.reportWord (96 + k.val) = s.snapshot.area[k.val] := by
  have hcounter : ¬(44 ≤ 96 + k.val ∧ 96 + k.val ≤ 51) := by omega
  have harea : 96 ≤ 96 + k.val ∧ 96 + k.val ≤ 111 := by omega
  unfold State.reportWord
  rw [dif_neg hcounter, dif_pos harea]
  congr 1
  exact Nat.add_sub_cancel_left 96 k.val

/-- A word of the report window that Table 8 does not list. -/
theorem State.reportWord_unlisted (s : State) {w : Nat} (h : (52 ≤ w ∧ w ≤ 95) ∨ (112 ≤ w ∧ w ≤ 127)) :
    s.reportWord w = 0 := by
  have hcounter : ¬(44 ≤ w ∧ w ≤ 51) := by omega
  have harea : ¬(96 ≤ w ∧ w ≤ 111) := by omega
  unfold State.reportWord
  rw [dif_neg hcounter, dif_neg harea]
  split <;> first | omega | rfl

/-- A bit of a summary that belongs to no source (R177). -/
theorem EventUnit.summary_getLsbD_other (u : EventUnit) (f : EventFlags → Bool) {n : Nat} (h : n = 0 ∨ 12 < n) :
    (u.summary f).getLsbD n = false := by
  have hbit (i : Fin 12) : (placeFlag (i.val + 1) (f (u.at i))).getLsbD n = false := by
    rw [placeFlag_getLsbD (by omega), decide_eq_false (by omega), Bool.and_false]
  rw [EventUnit.summary, packed_getLsbD, List.any_map]
  simp [hbit]

/-- A bit of the pending word (R177). -/
theorem State.reportWord_pending_bit (s : State) (n : Nat) :
    (s.reportWord 38).getLsbD n =
      ((s.events.summary EventFlags.pending).getLsbD n || (s.irqAsserted && decide (n = 31))) := by
  have hword : s.reportWord 38 = packed [s.events.summary EventFlags.pending, placeFlag 31 s.irqAsserted] := rfl
  rw [hword, packed_getLsbD]
  simp only [List.any_cons, List.any_nil, Bool.or_false, placeFlag_getLsbD (show 31 < 32 by decide)]

/-- Settles O6: each word of Table 8, by its own lemma. -/
theorem reportWindowWords : Obligations.ReportWindowWords := by
  intro s hrange hcap
  obtain ⟨-, -, -, -, -, -, -, -, hcounters, hcause, hsettle, -⟩ := hrange
  obtain ⟨-, -, -, -, -, -, -, hevict, -⟩ := hcap
  refine ⟨rfl, ?engine, ?cause, ?status, s.refusal.word_toNat, fun k => ⟨s.reportWord_pending k, ?serving⟩, ?irq, ?noIrq,
    fun n hn => ⟨?unusedPending, ?unusedServing⟩, s.linkSummaryA_toNat, s.linkSummaryB_toNat, ?walker, ?header,
    fun k => ?counter, s.reportWord_area, fun w hw => ?unlisted⟩
  case engine => exact (State.engineWord_toNat hsettle).trans (by cases s.engine.state <;> rfl)
  case cause => exact (State.causeWord_toNat hcause).trans (by cases s.cause.last <;> rfl)
  case status => exact s.command.word_toNat.trans (by cases s.command.result <;> rfl)
  case serving => exact EventUnit.summary_getLsbD s.events EventFlags.inService k
  case irq =>
    rw [s.reportWord_pending_bit, EventUnit.summary_getLsbD_other _ _ (by decide)]
    simp
  case noIrq => exact EventUnit.summary_getLsbD_other s.events EventFlags.inService (by decide)
  case unusedPending =>
    rw [s.reportWord_pending_bit, EventUnit.summary_getLsbD_other _ _ (by omega), decide_eq_false (by omega)]
    simp
  case unusedServing => exact EventUnit.summary_getLsbD_other s.events EventFlags.inService (by omega)
  case walker =>
    refine (State.walkerWord_toNat hevict).trans ?_
    cases s.walker.walk with
    | none => simp
    | some w => simp
  case header => exact s.snapshot.header_toNat.trans (by cases s.snapshot.kind <;> rfl)
  case counter =>
    show (s.reportWord (44 + k.val)).toNat = _
    rw [s.reportWord_counter, State.counterWord_toNat hcounters]
  case unlisted =>
    show (s.reportWord w).toNat = 0
    rw [s.reportWord_unlisted hw]
    rfl

/-! ### The refusal word -/

/-- The refusal word of a refused go write (R165). -/
theorem RefusalWord.word_busy (code tag : Byte) :
    RefusalWord.word { present := true, code := code, tag := tag } = code ++ tag ++ 0x8008#16 := by
  apply BitVec.eq_of_toNat_eq
  have hcode := code.isLt
  have htag := tag.isLt
  rw [RefusalWord.word_toNat, BitVec.toNat_append, BitVec.toNat_append]
  simp only [Nat.shiftLeft_eq, BitVec.toNat_ofNat]
  rw [Nat.mul_comm _ (2 ^ 8), ← Nat.two_pow_add_eq_or_of_lt htag, Nat.mul_comm _ (2 ^ 16),
    ← Nat.two_pow_add_eq_or_of_lt (by decide)]
  simp only [↓reduceIte]
  omega

/-- The refusal word of no refusal. -/
theorem RefusalWord.word_reset : RefusalWord.reset.word = 0 := by decide

/-- A taken go write, as a row's outcome (R163). -/
theorem next_goWrite_taken (h : s.takesCommands) (code tag : Byte) (f : State → State) :
    (Host.Outcome.next (s.onPort fun t => t.goWrite code tag f) : Host.Outcome State Fault Refusal) =
      .next (f (s.goBase code tag)) := by
  rw [State.goWrite_taken h]

/-- START keeps the refusal word (R165). -/
theorem State.start_refusal (s : State) : s.start.refusal = s.refusal := by
  unfold State.start
  cases s.startRefusal with
  | some r => rfl
  | none =>
    show s.begin.refusal = s.refusal
    unfold State.begin
    rw [State.beginWalk_eq]
    rfl

/-- STOP keeps the refusal word (R165). -/
theorem State.stop_refusal (s : State) : s.stop.refusal = s.refusal := by
  unfold State.stop
  split <;> rfl

/-- Settles O8: a refused go write by `goWrite_busy`, its word by `RefusalWord.word_busy`, and the resets by their equations. -/
theorem busyRefusal : Obligations.BusyRefusal := by
  refine ⟨fun go s hfree hrun g hg => ?listed, fun go code s hfree hrun => ?unlisted, fun s code tag h => ?word,
    fun straps go s => ⟨fun hlow => ?power, fun hlow hpower => ?line, fun htakes => ?restart⟩, fun go s htakes => ⟨?start, ?stop⟩⟩
  case listed => rw [exec_goForm hg, State.goWrite_busy hfree hrun]
  case unlisted => exact congrArg Host.Outcome.next (State.goWrite_busy hfree hrun code go.tag (commandBody code))
  case word =>
    show s.refusal.word = _
    rw [h, RefusalWord.word_busy]
  case power =>
    refine ⟨_, rfl, ?_⟩
    show (s.powerStable straps).refusal.word = 0
    rw [State.powerStable_high straps hlow]
    exact RefusalWord.word_reset
  case line =>
    refine ⟨_, rfl, ?_⟩
    show (s.resetReleased straps).refusal.word = 0
    cases hp : s.bus.power with
    | ended => rw [State.resetReleased_ended straps hlow hp]; exact RefusalWord.word_reset
    | lineLow => rw [State.resetReleased_lineLow straps hlow hp]; exact RefusalWord.word_reset
    | rising => exact absurd hp hpower
  case restart => exact ⟨_, next_goWrite_taken htakes 0x12 go.tag State.restart, RefusalWord.word_reset⟩
  case start => exact ⟨_, next_goWrite_taken htakes 0x10 go.tag State.start, State.start_refusal _⟩
  case stop => exact ⟨_, next_goWrite_taken htakes 0x11 go.tag State.stop, State.stop_refusal _⟩

end Sys2Proof.Machine
end

section
/-! PROOFS. The configuration commands (O12, O13, O14). -/

namespace Sys2Proof.Machine

variable {s t : State}

/-! ### SET IDENTITY -/

/-- What a new own node leaves in the route table: its own entry is EMPTY, every other stays (R97). -/
theorem State.route_forgetNode (d : Node)
    (hu : ∀ i j, (s.route i).state ≠ .empty → (s.route j).state ≠ .empty → (s.route i).dest = (s.route j).dest → i = j)
    (r : RouteIx) :
    (s.forgetNode d).route r =
      if (s.route r).state ≠ .empty ∧ (s.route r).dest = d then RouteEntry.empty else s.route r := by
  unfold State.forgetNode
  dsimp only
  cases hf : State.findRoute { s with wanted := s.wanted.filter fun w => w.dest != d } d with
  | none =>
    rw [if_neg fun ⟨hused, hdest⟩ => State.findRoute_none hf r hused hdest]
    rfl
  | some i =>
    obtain ⟨hused, hdest⟩ := State.findRoute_some hf
    by_cases hr : r = i
    · subst hr
      rw [State.route_setRoute_same, if_pos ⟨hused, hdest⟩]
    · rw [State.route_setRoute_other _ _ hr, if_neg fun ⟨hru, hrd⟩ => hr (hu r i hru hused (hrd.trans hdest.symm))]
      rfl

/-- SET IDENTITY with a node, in TRANSPARENT (R167). -/
theorem State.setIdentity_done (h : s.engineRuns = false) (hn : notANode (hiHalf s.arg1) = false) :
    s.setIdentity =
      State.finish
        { s with
          wanted := s.wanted.filter fun w => w.dest != hiHalf s.arg1
          routes := (s.forgetNode (hiHalf s.arg1)).routes
          identity := { ownNode := hiHalf s.arg1, realmSeed := loHalf s.arg1 }
          overlay := { s.overlay with helloSeq := hiHalf s.arg2, noticeSeq := loHalf s.arg2 } } .done := by
  unfold State.setIdentity
  rw [h, hn, State.forgetNode_eq]
  rfl

/-- Settles O12: the three outcomes of SET IDENTITY, and `route_forgetNode` for the table. -/
theorem setIdentityResult : Obligations.SetIdentityResult := by
  intro go s h
  have hx : exec (.setIdentity go) s = .next (s.goBase 0x01 go.tag).setIdentity :=
    next_goWrite_taken h 0x01 go.tag State.setIdentity
  refine ⟨fun hruns => ?refused, fun hstopped hnode => ?argument, fun hstopped hzero hbroadcast hunique => ?done⟩
  case refused =>
    have hruns' : s.engineRuns = true := State.engineRuns_iff.2 hruns
    rw [hx, State.setIdentity, State.goBase_engineRuns, hruns']
    rfl
  case argument =>
    have hstopped' : s.engineRuns = false := State.engineRuns_false.2 hstopped
    have hnode' : notANode (hiHalf s.mailbox[0]) = true := (notANode_iff _).2 hnode
    rw [hx, State.setIdentity, State.goBase_engineRuns, hstopped', State.goBase_arg1, hnode']
    rfl
  case done =>
    have hstopped' : (s.goBase 0x01 go.tag).engineRuns = false := State.engineRuns_false.2 hstopped
    have hnode' : notANode (hiHalf (s.goBase 0x01 go.tag).arg1) = false := (notANode_eq_false _).2 ⟨hzero, hbroadcast⟩
    obtain ⟨hroutes, -⟩ := hunique
    refine ⟨((s.goBase 0x01 go.tag).forgetNode (hiHalf s.mailbox[0])).routes, ?_, fun i => ?_⟩
    · rw [hx, State.setIdentity_done hstopped' hnode']
      rfl
    · exact State.route_forgetNode (s := s.goBase 0x01 go.tag) (hiHalf s.mailbox[0]) hroutes i

/-! ### SET ROLES -/

/-- The role a field of SET ROLES names (Table 7 of chapter 2). -/
theorem roleField_eq (w : Word) (i : Initiator) : roleField w i = roleOf (roleNumber w i) :=
  congrArg roleOf (nibble_toNat w i.isLt)

/-- The numbers that are no role. -/
theorem roleOf_eq_none : ∀ {n : Nat}, roleOf n = none ↔ 4 < n
  | 0 | 1 | 2 | 3 | 4 => by simp [roleOf]
  | n + 5 => ⟨fun _ => by omega, fun _ => rfl⟩

/-- The number of a mesh port's role. -/
theorem roleOf_eq_mesh {p : Port} : ∀ {n : Nat}, roleOf n = some (.mesh p) ↔ n = p.val + 2
  | 0 | 1 | 2 | 3 | 4 => by
    simp only [roleOf, Option.some.injEq, Role.mesh.injEq, reduceCtorEq, false_iff, Fin.ext_iff]
    all_goals omega
  | n + 5 => ⟨fun h => (nomatch h), fun h => absurd h (by omega)⟩

/-- Two indexes that satisfy a test, when more than one does. -/
theorem exists_ne_of_one_lt_countP {n : Nat} {p : Fin n → Bool} (h : 1 < (List.finRange n).countP p) :
    ∃ i j, i ≠ j ∧ p i = true ∧ p j = true := by
  rw [List.countP_eq_length_filter] at h
  have hnodup := (List.nodup_finRange n).filter p
  match hl : (List.finRange n).filter p with
  | [] => simp [hl] at h
  | [_] => simp [hl] at h
  | i :: j :: l =>
    have hmem (k : Fin n) (hk : k ∈ i :: j :: l) : p k = true := (List.mem_filter.1 (hl ▸ hk)).2
    rw [hl] at hnodup
    exact ⟨i, j, fun hij => (List.nodup_cons.1 hnodup).1 (by simp [hij]), hmem i (by simp), hmem j (by simp)⟩

/-- When SET ROLES refuses its argument (R3). -/
theorem rolesRefused_iff (w : Word) :
    rolesRefused w = true ↔ (∃ i, 4 < roleNumber w i) ∨
      ∃ i j, i ≠ j ∧ roleNumber w i = roleNumber w j ∧ 2 ≤ roleNumber w i ∧ roleNumber w i ≤ 4 := by
  have hnone : ((List.finRange 8).any fun i => (roleField w i).isNone) = true ↔ ∃ i, 4 < roleNumber w i := by
    simp [List.any_eq_true, roleField_eq, roleOf_eq_none]
  have hmesh (i : Initiator) (p : Port) : (roleField w i == some (.mesh p)) = true ↔ roleNumber w i = p.val + 2 := by
    rw [beq_iff_eq, roleField_eq, roleOf_eq_mesh]
  have htwice : ((List.finRange 3).any fun p =>
        decide (1 < (List.finRange 8).countP fun i => roleField w i == some (.mesh p))) = true ↔
      ∃ i j, i ≠ j ∧ roleNumber w i = roleNumber w j ∧ 2 ≤ roleNumber w i ∧ roleNumber w i ≤ 4 := by
    simp only [List.any_eq_true, List.mem_finRange, true_and, decide_eq_true_eq]
    constructor
    · rintro ⟨p, hp⟩
      obtain ⟨i, j, hij, hi, hj⟩ := exists_ne_of_one_lt_countP hp
      rw [hmesh] at hi hj
      exact ⟨i, j, hij, by omega⟩
    · rintro ⟨i, j, hij, heq, hlo, hhi⟩
      refine ⟨⟨roleNumber w i - 2, by omega⟩, Nat.lt_of_not_le fun hle => hij ?_⟩
      exact eq_of_countP_finRange_le_one hle ((hmesh i _).2 (by dsimp only; omega)) ((hmesh j _).2 (by dsimp only; omega))
  unfold rolesRefused
  rw [Bool.or_eq_true, hnone, htwice]

/-! ### SET REGION -/

/-- When a present descriptor is refused, in the words of R4. -/
theorem State.regionRefused_iff (s : State) (i : Fin 4) {r : Region} (h : 0 < r.count) :
    s.regionRefused i r = true ↔
      let last := r.base.toNat + r.slotSize * r.count - 1
      r.base.toNat % r.slotSize ≠ 0 ∨ 0xFFFFFF < last ∨
      (∃ (j : Fin 4) (q : Region), j.val ≠ i.val ∧ s.bus.regions[j.val] = some q ∧
        r.base.toNat < q.limit ∧ q.base.toNat ≤ last) ∨
      (r.base.toNat ≤ s.bus.position.val * 0x200000 + 0x1FFFFF ∧ s.bus.position.val * 0x200000 + 0x1FFC00 ≤ last) ∨
      512 < totalSlots (s.bus.regions.set i.val (some r)).toList := by
  have hlimit : r.limit = r.base.toNat + r.slotSize * r.count := rfl
  have hsize : 0 < r.slotSize * r.count := Nat.mul_pos (Nat.mul_pos (by decide) (Nat.two_pow_pos _)) h
  have hmeets : s.regionMeets i r = true ↔
      ∃ (j : Fin 4) (q : Region), j.val ≠ i.val ∧ s.bus.regions[j.val] = some q ∧
        r.base.toNat < q.limit ∧ q.base.toNat ≤ r.base.toNat + r.slotSize * r.count - 1 := by
    unfold State.regionMeets
    simp only [List.any_eq_true, List.mem_finRange, true_and, Bool.and_eq_true, bne_iff_ne, ne_eq, Fin.ext_iff]
    refine exists_congr fun j => ?_
    cases hq : s.bus.regions[j.val] with
    | none => simp
    | some q =>
      simp only [rangesMeet, Bool.and_eq_true, decide_eq_true_eq, Option.some.injEq]
      constructor
      · rintro ⟨hj, hlo, hhi⟩
        exact ⟨q, hj, rfl, hlo, Nat.le_sub_one_of_lt (hlimit ▸ hhi)⟩
      · rintro ⟨q', hj, rfl, hlo, hhi⟩
        exact ⟨hj, hlo, by omega⟩
  have hstrip (n : Nat) : rangesMeet r.base.toNat r.limit n (n + 1024) = true ↔
      r.base.toNat ≤ n + 1023 ∧ n ≤ r.base.toNat + r.slotSize * r.count - 1 := by
    simp only [rangesMeet, Bool.and_eq_true, decide_eq_true_eq]
    omega
  have hspace : 0x1000000 < r.limit ↔ 0xFFFFFF < r.base.toNat + r.slotSize * r.count - 1 := by omega
  unfold State.regionRefused State.regionsWith
  simp only [Bool.or_eq_true, hmeets, hstrip, bne_iff_ne, decide_eq_true_eq, stripBase, Config.portSpace, Config.maxSlots, hspace,
    or_assoc]

/-- The fields of SET REGION (Table 7 of chapter 2). -/
theorem regionFields (a1 a2 : Word) :
    numField a1 24 8 = a1.toNat / 0x1000000 ∧ numField a2 24 8 = a2.toNat / 0x1000000 ∧
      numField a2 0 16 = a2.toNat % 0x10000 := by
  have h1 := a1.isLt
  have h2 := a2.isLt
  simp only [numField_eq]
  omega

/-- SET REGION in TRANSPARENT with its fields in range (R4). -/
theorem State.setRegion_inRange (h : s.engineRuns = false) {ix code count : Nat} (hix : s.arg1.toNat / 0x1000000 = ix)
    (hcode : s.arg2.toNat / 0x1000000 = code) (hcount : s.arg2.toNat % 0x10000 = count) (hi : ix < 4) (hc : code < 4)
    (hn : count ≤ 256) : s.setRegion = s.changeRegion ⟨ix, hi⟩ ⟨code, hc⟩ count := by
  obtain ⟨f1, f2, f3⟩ := regionFields s.arg1 s.arg2
  subst hix hcode hcount
  unfold State.setRegion
  simp only [h, Bool.false_eq_true, if_false, f1, f2, f3]
  rw [dif_pos ⟨hi, hc, hn⟩]

/-- SET REGION in TRANSPARENT with a field out of range (R4). -/
theorem State.setRegion_outOfRange (h : s.engineRuns = false)
    (hout : 3 < s.arg1.toNat / 0x1000000 ∨ 3 < s.arg2.toNat / 0x1000000 ∨ 256 < s.arg2.toNat % 0x10000) :
    s.setRegion = s.finish .badArgument := by
  obtain ⟨f1, f2, f3⟩ := regionFields s.arg1 s.arg2
  unfold State.setRegion
  simp only [h, Bool.false_eq_true, if_false, f1, f2, f3]
  rw [dif_neg (by omega)]

/-- SET ROLES' roles, by their numbers (R3). -/
theorem rolesOf_get {w : Word} {i : Initiator} (h : roleNumber w i ≤ 4) :
    (rolesOf w)[i.val] = match roleNumber w i with
      | 0 => .ignored | 1 => .software | 2 => .mesh 0 | 3 => .mesh 1 | _ => .mesh 2 := by
  have hget : (rolesOf w)[i.val] = (roleOf (roleNumber w i)).getD .ignored := by
    simp [rolesOf, roleField_eq]
  rw [hget]
  match roleNumber w i, h with
  | 0, _ | 1, _ | 2, _ | 3, _ | 4, _ => rfl

/-- SET ROLES as a taken command (R3). -/
theorem exec_setRoles_taken (h : s.takesCommands) (go : GoAccess) :
    exec (.setRoles go) s = .next (s.goBase 0x03 go.tag).setRoles :=
  next_goWrite_taken h 0x03 go.tag State.setRoles

/-- SET REGION as a taken command (R4). -/
theorem exec_setRegion_taken (h : s.takesCommands) (go : GoAccess) :
    exec (.setRegion go) s = .next (s.goBase 0x02 go.tag).setRegion :=
  next_goWrite_taken h 0x02 go.tag State.setRegion

/-- Settles O13: `rolesRefused_iff` and `regionRefused_iff` say when the commands refuse. -/
theorem setRolesAndSetRegion : Obligations.SetRolesAndSetRegion := by
  refine ⟨fun go s h => ⟨fun hruns => ?rolesState, fun hstopped hbad => ?rolesBad, fun hstopped hle hone => ?rolesDone⟩,
    fun go s h => ⟨fun hruns => ?regionState, fun hstopped hout => ?regionOut, fun hi hc hstopped hn =>
      ⟨fun hzero => ?regionNone, fun hpos => ⟨fun hrefused => ?regionBad, fun hfits => ?regionDone⟩⟩⟩⟩
  case rolesState =>
    have hruns' : s.engineRuns = true := State.engineRuns_iff.2 hruns
    rw [exec_setRoles_taken h, State.setRoles, State.goBase_engineRuns, hruns']
    rfl
  case rolesBad =>
    have hstopped' : s.engineRuns = false := State.engineRuns_false.2 hstopped
    have hrefused : rolesRefused s.mailbox[0] = true := (rolesRefused_iff _).2 hbad
    rw [exec_setRoles_taken h, State.setRoles, State.goBase_engineRuns, hstopped', State.goBase_arg1, hrefused]
    rfl
  case rolesDone =>
    have hstopped' : s.engineRuns = false := State.engineRuns_false.2 hstopped
    have htaken : rolesRefused s.mailbox[0] = false := by
      rw [← Bool.not_eq_true, rolesRefused_iff]
      rintro (⟨i, hi⟩ | ⟨i, j, hij, heq, hlo, -⟩)
      · exact Nat.not_lt_of_le (hle i) hi
      · exact Nat.not_lt_of_le hlo (hone i j hij heq)
    refine ⟨rolesOf s.mailbox[0], ?_, fun i => rolesOf_get (hle i)⟩
    rw [exec_setRoles_taken h, State.setRoles, State.goBase_engineRuns, hstopped', State.goBase_arg1, htaken]
    rfl
  case regionState =>
    have hruns' : s.engineRuns = true := State.engineRuns_iff.2 hruns
    rw [exec_setRegion_taken h, State.setRegion, State.goBase_engineRuns, hruns']
    rfl
  case regionOut =>
    have hstopped' : (s.goBase 0x02 go.tag).engineRuns = false := State.engineRuns_false.2 hstopped
    rw [exec_setRegion_taken h, State.setRegion_outOfRange hstopped' hout]
    rfl
  case regionNone =>
    have hstopped' : (s.goBase 0x02 go.tag).engineRuns = false := State.engineRuns_false.2 hstopped
    rw [exec_setRegion_taken h, State.setRegion_inRange hstopped' (ix := s.mailbox[0].toNat / 0x1000000) (code := s.mailbox[1].toNat / 0x1000000)
      (count := s.mailbox[1].toNat % 0x10000) rfl rfl rfl hi hc hn, State.changeRegion, if_pos hzero]
    rfl
  case regionBad =>
    have hstopped' : (s.goBase 0x02 go.tag).engineRuns = false := State.engineRuns_false.2 hstopped
    rw [exec_setRegion_taken h, State.setRegion_inRange hstopped' (ix := s.mailbox[0].toNat / 0x1000000) (code := s.mailbox[1].toNat / 0x1000000)
      (count := s.mailbox[1].toNat % 0x10000) rfl rfl rfl hi hc hn, State.changeRegion,
      if_neg (Nat.ne_of_gt hpos), if_pos ((State.regionRefused_iff _ _ hpos).2 hrefused)]
    rfl
  case regionDone =>
    have hstopped' : (s.goBase 0x02 go.tag).engineRuns = false := State.engineRuns_false.2 hstopped
    rw [exec_setRegion_taken h, State.setRegion_inRange hstopped' (ix := s.mailbox[0].toNat / 0x1000000) (code := s.mailbox[1].toNat / 0x1000000)
      (count := s.mailbox[1].toNat % 0x10000) rfl rfl rfl hi hc hn, State.changeRegion,
      if_neg (Nat.ne_of_gt hpos), if_neg (fun hr => hfits ((State.regionRefused_iff _ _ hpos).1 hr))]
    rfl

/-! ### SET TIMING and SET METRIC -/

/-- A field brought into its range (R168). -/
theorem clampInto_eq {lo hi : Nat} (h : lo ≤ hi) (n : Nat) : clampInto lo hi n = intoRange lo hi n := by
  unfold clampInto intoRange
  repeat' split
  all_goals omega

/-- A field that its clamping changes. -/
theorem clampInto_ne {lo hi n : Nat} : clampInto lo hi n ≠ n ↔ n < lo ∨ hi < n := by
  unfold clampInto
  repeat' split
  all_goals omega

/-- The fields of SET TIMING as numbers (Table 2 of chapter 10). -/
theorem timingFields_eq (a1 a2 a3 : Word) : timingFields a1 a2 a3 = timingNumbers a1 a2 a3 := by
  have h1 := a1.isLt
  have h2 := a2.isLt
  have high (n : Nat) (h : n < 2 ^ 32) : n / 0x1000000 % 256 = n / 0x1000000 := by omega
  simp only [timingFields, timingNumbers, numField_eq, Nat.reducePow, Nat.div_one, high _ h1, high _ h2]

/-- SET TIMING clamps a field. -/
theorem anyClamped_iff (a1 a2 a3 : Word) :
    anyClamped (timingFields a1 a2 a3) = true ↔ ∃ x ∈ timingNumbers a1 a2 a3, x.1 < x.2.1 ∨ x.2.2 < x.1 := by
  rw [anyClamped, timingFields_eq, List.any_eq_true]
  simp only [bne_iff_ne, clampInto_ne]

/-- The setting of SET TIMING at place `i` of its fields. -/
def timingSetting (a1 a2 a3 : Word) (i : Nat) : Nat :=
  let x := (timingNumbers a1 a2 a3)[i]?.getD (0, 0, 0)
  intoRange x.2.1 x.2.2 x.1

/-- The settings after SET TIMING, by their places. -/
theorem Settings.withTiming_eq (cfg : Settings) (a1 a2 a3 : Word) :
    let f := timingSetting a1 a2 a3
    cfg.withTiming a1 a2 a3 =
      { cfg with
        sampleInterval := 10 * f 0, routeExpiry := f 1, deadLimit := f 2, probation := f 3, settle := f 4
        floodLifetime := f 5, waitLimit := f 6, holdLimit := f 7, outcomeDeadline := f 8, purgeWindow := f 9 } := by
  simp only [timingSetting, ← timingFields_eq, timingFields, List.getElem?_cons_zero, List.getElem?_cons_succ, Option.getD_some,
    Settings.withTiming, clampInto_eq (show 2 ≤ 255 by decide), clampInto_eq (show 2 ≤ 15 by decide),
    clampInto_eq (show 1 ≤ 7 by decide), clampInto_eq (show 1 ≤ 15 by decide), clampInto_eq (show 1 ≤ 63 by decide),
    clampInto_eq (show 8 ≤ 255 by decide), clampInto_eq (show 1 ≤ 255 by decide)]

/-- The load mode's effect on the sample timer (R156). -/
theorem State.reloadTimer_eq (s : State) (immediate : Bool) :
    s.reloadTimer immediate =
      { s with engine := { s.engine with
        nextExpiry := if immediate = true then s.engine.nextExpiry.map fun _ => s.now + s.settings.sampleInterval
          else s.engine.nextExpiry } } := by
  unfold State.reloadTimer
  cases immediate with
  | false => rfl
  | true => cases hn : s.engine.nextExpiry with
    | none =>
      simp only [Option.isSome_none, Bool.and_false, Bool.false_eq_true, if_false, if_true, Option.map_none]
      rw [← hn]
    | some n => simp only [Option.isSome_some, Bool.and_true, if_true, Option.map_some]

/-- SET METRIC clamps a field (R169). -/
theorem metricClamped_iff (a1 a2 : Word) :
    metricClamped a1 a2 = true ↔
      8 < a1.toNat / 0x10000 % 16 ∨ 4096 < a1.toNat % 0x2000 ∨ 0 < (a2.extractLsb' 0 8).toInt := by
  unfold metricClamped
  simp only [Bool.or_eq_true, decide_eq_true_eq, numField_eq, Nat.reducePow, Nat.div_one, or_assoc]
  rfl

/-- The settings after SET METRIC (R169). -/
theorem Settings.withMetric_eq (cfg : Settings) (a1 a2 : Word) :
    cfg.withMetric a1 a2 =
      { cfg with
        hopPenalty := a1.toNat / 0x1000000, hysteresis := min 8 (a1.toNat / 0x10000 % 16)
        qualityFloor := min 4096 (a1.toNat % 0x2000), signalFloor := min 0 (a2.extractLsb' 0 8).toInt } := by
  have h1 := a1.isLt
  have high : a1.toNat / 0x1000000 % 256 = a1.toNat / 0x1000000 := by omega
  have hfloor (b : Byte) : clampFloor b = min 0 b.toInt := by
    unfold clampFloor
    split <;> omega
  have hclamp (hi n : Nat) : clampInto 0 hi n = min hi n := by
    unfold clampInto
    repeat' split
    all_goals omega
  simp only [Settings.withMetric, numField_eq, hfloor, hclamp, Nat.reducePow, Nat.div_one, bitField, high]

/-- Settles O14: the settings by `withTiming_eq` and `withMetric_eq`, the results by `anyClamped_iff` and `metricClamped_iff`. -/
theorem setTimingAndMetricResult : Obligations.SetTimingAndMetricResult := by
  refine ⟨fun go s h => ?timing, fun go s h => ?metric⟩
  case timing =>
    have hx : exec (.setTiming go) s = .next (s.goBase 0x04 go.tag).setTiming :=
      next_goWrite_taken h 0x04 go.tag State.setTiming
    rw [hx, State.setTiming, State.reloadTimer_eq, Settings.withTiming_eq]
    simp only [clampedResult, anyClamped_iff, State.goBase_arg1, State.goBase_arg2, State.goBase_arg3]
    rfl
  case metric =>
    have hx : exec (.setMetric go) s = .next (s.goBase 0x05 go.tag).setMetric :=
      next_goWrite_taken h 0x05 go.tag State.setMetric
    rw [hx, State.setMetric, Settings.withMetric_eq]
    simp only [clampedResult, metricClamped_iff, State.goBase_arg1, State.goBase_arg2]
    rfl

end Sys2Proof.Machine
end

section
/-! PROOFS. START, STOP and RESTART, and the commands on tables and lists at their go write (O15 to O19). -/

namespace Sys2Proof.Machine

variable {s t : State}

/-! ### START -/

/-- No region descriptor is present. -/
theorem State.no_regions_iff (s : State) :
    s.bus.regions.toList.all Option.isNone = true ↔ ∀ j : Fin 4, s.bus.regions[j.val] = none := by
  simp only [List.all_eq_true, Option.isNone_iff_eq_none]
  constructor
  · exact fun h j => h _ (Vector.mem_toList_iff.2 (Vector.getElem_mem _))
  · intro h r hr
    obtain ⟨j, hj, rfl⟩ := Vector.getElem_of_mem (Vector.mem_toList_iff.1 hr)
    exact h ⟨j, hj⟩

/-- No initiator is a mesh port. -/
theorem State.no_mesh_iff (s : State) :
    ((List.finRange 3).all fun p => !s.bus.roles.toList.contains (.mesh p)) = true ↔ ∀ i p, s.role i ≠ .mesh p := by
  simp only [List.all_eq_true, List.mem_finRange, true_implies, Bool.not_eq_true', List.contains_eq_mem,
    decide_eq_false_iff_not]
  constructor
  · exact fun h i p hp => h p (hp ▸ Vector.mem_toList_iff.2 (Vector.getElem_mem _))
  · intro h p hp
    obtain ⟨i, hi, hrole⟩ := Vector.getElem_of_mem (Vector.mem_toList_iff.1 hp)
    exact h ⟨i, hi⟩ p hrole

/-- START refused by the engine state or the own node (R150). -/
theorem State.startRefusal_wrongState (h : s.engine.state ≠ .transparent ∨ s.identity.ownNode = 0) :
    s.startRefusal = some .wrongState := by
  unfold State.startRefusal
  by_cases hruns : s.engineRuns = true
  · rw [if_pos hruns]
  · have hnode : s.identity.ownNode = 0 := h.resolve_left fun he => hruns (State.engineRuns_iff.2 he)
    rw [if_neg hruns, if_pos hnode]

/-- START refused by the regions or the mesh ports (R150). -/
theorem State.startRefusal_badArgument (he : s.engine.state = .transparent) (hn : s.identity.ownNode ≠ 0)
    (h : (∀ j : Fin 4, s.bus.regions[j.val] = none) ∨ ∀ i p, s.role i ≠ .mesh p) :
    s.startRefusal = some .badArgument := by
  have hruns : s.engineRuns = false := State.engineRuns_false.2 he
  unfold State.startRefusal
  rw [hruns, if_neg (by decide), if_neg hn]
  by_cases hregions : s.bus.regions.toList.all Option.isNone = true
  · rw [if_pos hregions]
  · have hmesh := s.no_mesh_iff.2 (h.resolve_left fun hr => hregions (s.no_regions_iff.2 hr))
    rw [if_neg hregions, if_pos hmesh]

/-- START that passes its tests (R150). -/
theorem State.startRefusal_none (he : s.engine.state = .transparent) (hn : s.identity.ownNode ≠ 0)
    (hr : ∃ j : Fin 4, s.bus.regions[j.val] ≠ none) (hm : ∃ i p, s.role i = .mesh p) : s.startRefusal = none := by
  obtain ⟨j, hj⟩ := hr
  obtain ⟨i, p, hp⟩ := hm
  have hruns : s.engineRuns = false := State.engineRuns_false.2 he
  unfold State.startRefusal
  rw [hruns, if_neg (by decide), if_neg hn, if_neg fun h => hj (s.no_regions_iff.1 h j),
    if_neg fun h => s.no_mesh_iff.1 h i p hp]

/-- The links that START evicts (R133). -/
theorem State.mem_dyingLinks {i : LinkIx} :
    i ∈ s.dyingLinks ↔ (s.link i).state = .lost ∨ (s.link i).state = .purging := by
  unfold State.dyingLinks allLinks
  rw [List.mem_filter]
  cases hst : (s.link i).state <;> simp [LinkState.dying]

/-- Work is pending (R122). -/
theorem Walker.hasWork_iff (w : Walker) : w.hasWork = true ↔ w.refresh = true ∨ w.flush = true ∨ w.evict ≠ [] := by
  simp [Walker.hasWork, or_assoc]

/-- A walker that takes its pending work when no walk is in progress (R122). -/
def Walker.begun (w : Walker) : Walker :=
  if w.walk.isNone && w.hasWork then
    { refresh := false, flush := false, evict := []
      walk := some { refresh := w.refresh, flush := w.flush, evict := w.evict, next := 0 } }
  else w

/-- A walk begins when it can, while the engine runs (R122). -/
theorem State.beginWalk_running (h : s.engine.state ≠ .transparent) :
    s.beginWalk = { s with walker := s.walker.begun } := by
  unfold State.beginWalk Walker.begun
  rw [State.engineRuns_iff.2 h, Bool.and_true]
  split <;> rfl

/-- A walker with no walk and no work stays. -/
theorem Walker.begun_idle {w : Walker} (h : ¬w.hasWork = true) : w.begun = w := by
  rw [Walker.begun, Bool.not_eq_true _ |>.mp h, Bool.and_false, if_neg (by decide)]

/-- A walker in a walk stays. -/
theorem Walker.begun_walking {w : Walker} (h : w.walk ≠ none) : w.begun = w := by
  rw [Walker.begun, Option.isNone_eq_false_iff.2 (Option.isSome_iff_ne_none.2 h), Bool.false_and, if_neg (by decide)]

/-- A walker with work begins a walk. -/
theorem Walker.begun_begins {w : Walker} (h : w.walk = none) (hw : w.hasWork = true) :
    w.begun =
      { refresh := false, flush := false, evict := []
        walk := some { refresh := w.refresh, flush := w.flush, evict := w.evict, next := 0 } } := by
  rw [Walker.begun, h, hw]
  rfl

/-- A flush request while the engine runs (R121, R122). -/
theorem State.requestFlush_running (h : s.engine.state ≠ .transparent) :
    s.requestFlush = { s with walker := Walker.begun { s.walker with flush := true } } :=
  State.beginWalk_running (s := { s with walker := { s.walker with flush := true } }) h

/-- A refresh request while the engine runs (R121, R122). -/
theorem State.requestRefresh_running (h : s.engine.state ≠ .transparent) :
    s.requestRefresh = { s with walker := Walker.begun { s.walker with refresh := true } } :=
  State.beginWalk_running (s := { s with walker := { s.walker with refresh := true } }) h

/-- The walker after START (R133, R122). -/
def State.startedWalker (s : State) : Walker :=
  Walker.begun { s.walker with evict := s.dyingLinks.foldl addEvict s.walker.evict }

/-- START's effects (R151). -/
theorem State.begin_eq (s : State) :
    s.begin =
      { s with
        slots := Vector.replicate 512 SlotRecord.vacant
        verdicts := { s.verdicts with flood := [] }
        engine := { state := .learning, settle := 0, nextExpiry := some (s.now + s.settings.sampleInterval) }
        purge := { s.purge with window := if s.purge.set = [] then none else some (s.now + s.settings.purgeWindow) }
        walker := s.startedWalker } := by
  have hset : (s.purge.set.isEmpty = true) = (s.purge.set = []) := by rw [List.isEmpty_iff]
  unfold State.begin
  simp only [hset]
  rw [State.beginWalk_running (show EngineState.learning ≠ .transparent by decide)]
  rfl

/-- The walker after START, in the words of R133 and R122. -/
theorem State.startedWalker_spec (h : s.walker.walk = none) :
    let dying := fun i => (s.link i).state = .lost ∨ (s.link i).state = .purging
    let work := s.walker.refresh = true ∨ s.walker.flush = true ∨ s.walker.evict ≠ [] ∨ ∃ i, dying i
    (¬work → s.startedWalker = s.walker) ∧
    (work → s.startedWalker.refresh = false ∧ s.startedWalker.flush = false ∧ s.startedWalker.evict = [] ∧
      ∃ w, s.startedWalker.walk = some w ∧ w.refresh = s.walker.refresh ∧ w.flush = s.walker.flush ∧ w.next = 0 ∧
        ∀ i, i ∈ w.evict ↔ i ∈ s.walker.evict ∨ dying i) := by
  intro dying work
  have hmem (i : LinkIx) : i ∈ s.dyingLinks.foldl addEvict s.walker.evict ↔ i ∈ s.walker.evict ∨ dying i := by
    rw [mem_foldl_addEvict, State.mem_dyingLinks]
  have hevict : s.dyingLinks.foldl addEvict s.walker.evict ≠ [] ↔ s.walker.evict ≠ [] ∨ ∃ i, dying i := by
    have hexists (is : List LinkIx) : is ≠ [] ↔ ∃ i, i ∈ is :=
      ⟨List.exists_mem_of_ne_nil is, fun ⟨_, hi⟩ => List.ne_nil_of_mem hi⟩
    rw [hexists, hexists, ← exists_or]
    exact exists_congr hmem
  have hwork : Walker.hasWork { s.walker with evict := s.dyingLinks.foldl addEvict s.walker.evict } = true ↔ work := by
    rw [Walker.hasWork_iff, hevict]
  constructor
  · intro hno
    have hempty : s.dyingLinks.foldl addEvict s.walker.evict = s.walker.evict := by
      have hdying : s.dyingLinks = [] :=
        List.eq_nil_iff_forall_not_mem.2 fun i hi => hno (.inr (.inr (.inr ⟨i, State.mem_dyingLinks.1 hi⟩)))
      rw [hdying]
      rfl
    unfold State.startedWalker
    rw [Walker.begun_idle fun hw => hno (hwork.1 hw), hempty]
  · intro hyes
    unfold State.startedWalker
    rw [Walker.begun_begins (w := { s.walker with evict := s.dyingLinks.foldl addEvict s.walker.evict }) h (hwork.2 hyes)]
    exact ⟨rfl, rfl, rfl, _, rfl, rfl, rfl, rfl, hmem⟩

/-- START as a taken command (R150, R151). -/
theorem exec_start_taken (h : s.takesCommands) (go : GoAccess) :
    exec (.start go) s = .next (s.goBase 0x10 go.tag).start :=
  next_goWrite_taken h 0x10 go.tag State.start

/-- Settles O15: the tests by `startRefusal`'s equations, the effects by `begin_eq`. -/
theorem startResult : Obligations.StartResult := by
  refine ⟨fun go s h => ⟨fun hbad => ?wrongState, fun he hn hbad => ?badArgument⟩, fun go s h he hw hn hr hm => ?begins⟩
  case wrongState =>
    rw [exec_start_taken h, State.start, State.startRefusal_wrongState (s := s.goBase 0x10 go.tag) hbad]
    rfl
  case badArgument =>
    rw [exec_start_taken h, State.start, State.startRefusal_badArgument (s := s.goBase 0x10 go.tag) he hn hbad]
    rfl
  case begins =>
    refine ⟨s.startedWalker, ?_, State.startedWalker_spec hw⟩
    rw [exec_start_taken h, State.start, State.startRefusal_none (s := s.goBase 0x10 go.tag) he hn hr hm, State.begin_eq]
    rfl

/-! ### STOP and RESTART -/

/-- Settles O16: STOP by the engine state, RESTART by unfolding. -/
theorem stopAndRestart : Obligations.StopAndRestart := by
  have hx (go : GoAccess) (s : State) (h : s.takesCommands) : exec (.stop go) s = .next (s.goBase 0x11 go.tag).stop :=
    next_goWrite_taken h 0x11 go.tag State.stop
  refine ⟨fun go s h => ⟨fun he => ?refused, fun he => ?stops⟩, fun go s h => ?restarts⟩
  case refused =>
    have hruns : s.engineRuns = false := State.engineRuns_false.2 he
    rw [hx go s h, State.stop, State.goBase_engineRuns, hruns]
    rfl
  case stops =>
    have hruns : s.engineRuns = true := State.engineRuns_iff.2 he
    rw [hx go s h, State.stop, State.goBase_engineRuns, hruns]
    rfl
  case restarts => exact next_goWrite_taken h 0x12 go.tag State.restart

/-! ### Commands that go RUNNING -/

/-- When PIN ROUTE refuses its arguments (R113). -/
theorem State.pinRefused_iff (s : State) :
    let bad := fun n : Node => n = 0 ∨ n = 0xFFFF#16 ∨ n = s.identity.ownNode
    s.pinRefused = true ↔
      bad (hiHalf s.arg1) ∨ bad (loHalf s.arg1) ∨ 2 < s.arg2.toNat / 0x1000000 ∨ s.arg2.toNat % 0x10000 = 65535 := by
  have h2 := s.arg2.isLt
  have hport : numField s.arg2 24 8 = s.arg2.toNat / 0x1000000 := (regionFields s.arg2 s.arg2).1
  have hcost : (loHalf s.arg2 == 0xFFFF#16) = true ↔ s.arg2.toNat % 0x10000 = 65535 := by
    rw [beq_iff_eq, ← (regionFields s.arg2 s.arg2).2.2, ← BitVec.toNat_inj]
    rfl
  unfold State.pinRefused
  simp only [Bool.or_eq_true, notANode_iff, hcost, hport, decide_eq_true_eq, beq_iff_eq, or_assoc]

/-- Settles O17: each command by `next_goWrite_taken`, FLUSH ROUTES' walk by `requestFlush_running`. -/
theorem stepCommandsAndFlushGoRunning : Obligations.StepCommandsAndFlushGoRunning := by
  have hpin (go : GoAccess) (s : State) (h : s.takesCommands) :
      exec (.pinRoute go) s = .next (s.goBase 0x20 go.tag).pinRoute := next_goWrite_taken h 0x20 go.tag State.pinRoute
  have hflush (go : GoAccess) (s : State) (h : s.takesCommands) :
      exec (.flushRoutes go) s = .next (s.goBase 0x25 go.tag).flushRoutes :=
    next_goWrite_taken h 0x25 go.tag State.flushRoutes
  refine ⟨fun go s h => ⟨⟨fun hbad => ?pinRefused, fun hgood => ?pinRuns⟩, next_goWrite_taken h 0x21 go.tag State.unpin,
    next_goWrite_taken h 0x30 go.tag State.readRoute, next_goWrite_taken h 0x33 go.tag State.readWanted,
    next_goWrite_taken h 0x34 go.tag State.releaseWanted⟩,
    fun go s h => ⟨fun he => ?flushRefused, fun he hw => ?flushWaits, fun he hw => ?flushBegins⟩⟩
  case pinRefused =>
    rw [hpin go s h, State.pinRoute, if_pos ((s.goBase 0x20 go.tag).pinRefused_iff.2 hbad)]
    rfl
  case pinRuns =>
    rw [hpin go s h, State.pinRoute, if_neg fun hr => hgood ((s.goBase 0x20 go.tag).pinRefused_iff.1 hr)]
    rfl
  case flushRefused =>
    have hruns : s.engineRuns = false := State.engineRuns_false.2 he
    rw [hflush go s h, State.flushRoutes, State.goBase_engineRuns, hruns]
    rfl
  case flushWaits =>
    have hruns : s.engineRuns = true := State.engineRuns_iff.2 he
    rw [hflush go s h, State.flushRoutes, State.goBase_engineRuns, hruns, if_pos rfl,
      State.goBase_goRunning, State.requestFlush_running (s := s.wentRunning 0x25 go.tag) he]
    show Host.Outcome.next { s.wentRunning 0x25 go.tag with walker := Walker.begun { s.walker with flush := true } } = _
    rw [Walker.begun_walking (w := { s.walker with flush := true }) hw]
  case flushBegins =>
    have hruns : s.engineRuns = true := State.engineRuns_iff.2 he
    have hwork : Walker.hasWork { s.walker with flush := true } = true := (Walker.hasWork_iff _).2 (.inr (.inl rfl))
    rw [hflush go s h, State.flushRoutes, State.goBase_engineRuns, hruns, if_pos rfl,
      State.goBase_goRunning, State.requestFlush_running (s := s.wentRunning 0x25 go.tag) he]
    show Host.Outcome.next { s.wentRunning 0x25 go.tag with walker := Walker.begun { s.walker with flush := true } } = _
    rw [Walker.begun_begins (w := { s.walker with flush := true }) hw hwork]

/-! ### Commands on the purge set, the bar list and the counters -/

/-- The arguments of PURGE ADD in error (R80). -/
theorem State.purgeNamed_none
    (h : hiHalf s.arg1 = 0 ∨ hiHalf s.arg1 = 0xFFFF#16 ∨ 2 < s.arg1.toNat / 0x100 % 256) : s.purgeNamed = none := by
  have hport : numField s.arg1 8 8 = s.arg1.toNat / 0x100 % 256 := numField_eq s.arg1 8 8
  unfold State.purgeNamed
  by_cases hp : numField s.arg1 8 8 < 3
  · rw [dif_pos hp, if_pos ((notANode_iff _).2 ((or_assoc.2 h).resolve_right (by omega)))]
  · rw [dif_neg hp]

/-- The link that PURGE ADD names (R80). -/
theorem State.purgeNamed_some (hp : s.arg1.toNat / 0x100 % 256 < 3)
    (h : ¬(hiHalf s.arg1 = 0 ∨ hiHalf s.arg1 = 0xFFFF#16 ∨ 2 < s.arg1.toNat / 0x100 % 256)) :
    s.purgeNamed = some { node := hiHalf s.arg1, port := ⟨s.arg1.toNat / 0x100 % 256, hp⟩ } := by
  have hport : numField s.arg1 8 8 = s.arg1.toNat / 0x100 % 256 := numField_eq s.arg1 8 8
  have hnode : notANode (hiHalf s.arg1) = false := (notANode_eq_false _).2 ⟨fun h0 => h (.inl h0), fun h1 => h (.inr (.inl h1))⟩
  unfold State.purgeNamed
  simp only [hport, hp, hnode, Bool.false_eq_true, if_false, dif_pos]

/-- A name that no entry in use has is not found (R65). -/
theorem State.findLink_eq_none {n : LinkName}
    (h : ∀ i, (s.link i).state ≠ .free → ¬((s.link i).node = n.node ∧ (s.link i).port = n.port)) : s.findLink n = none := by
  cases hf : s.findLink n with
  | none => rfl
  | some i =>
    obtain ⟨hfree, hnode, hport, -⟩ := State.findLink_some hf
    exact absurd ⟨hnode, hport⟩ (h i hfree)

/-- When PURGE ADD finds a list full (R80). -/
theorem State.purgeAdd_full_iff (s : State) (n : LinkName) (i : LinkIx) :
    (s.purgeFull n i || s.barFull n) = true ↔
      (heardState (s.link i).state ∧ n ∉ s.purge.set ∧ 8 ≤ s.purge.set.length) ∨
        (s.arg1.getLsbD 0 = true ∧ n.node ∉ s.purge.bars ∧ 8 ≤ s.purge.bars.length) := by
  simp [State.purgeFull, State.barFull, State.barFlag, LinkState.estimated_iff, Config.maxPurge, Config.maxBarred, and_assoc]

/-- PURGE ADD changes the purge unit alone (R80). -/
theorem State.joinBars_eq (s : State) (n : Node) :
    s.joinBars n =
      { s with purge := { s.purge with
        bars := if s.arg1.getLsbD 0 = true ∧ n ∉ s.purge.bars then s.purge.bars ++ [n] else s.purge.bars } } := by
  have hcond : (s.barFlag && !s.purge.bars.contains n) = true ↔ s.arg1.getLsbD 0 = true ∧ n ∉ s.purge.bars := by
    simp [State.barFlag]
  unfold State.joinBars
  by_cases h : (s.barFlag && !s.purge.bars.contains n) = true
  · rw [if_pos h, if_pos (hcond.1 h)]
  · rw [if_neg h, if_neg fun h' => h (hcond.2 h')]

/-- PURGE ADD on a link that it finds, with a list full (R80). -/
theorem State.purgeAdd_full {n : LinkName} {i : LinkIx} (he : s.engineRuns = true) (hn : s.purgeNamed = some n)
    (hi : s.findLink n = some i) (hfull : (s.purgeFull n i || s.barFull n) = true) : s.purgeAdd = s.finish .full := by
  unfold State.purgeAdd
  simp only [he, hn, hi, Bool.not_true, Bool.false_eq_true, if_false, if_pos hfull]

/-- PURGE ADD on a link that it finds, with room (R80). -/
theorem State.purgeAdd_done {n : LinkName} {i : LinkIx} (he : s.engineRuns = true) (hn : s.purgeNamed = some n)
    (hi : s.findLink n = some i) (hroom : ¬(s.purgeFull n i || s.barFull n) = true) :
    ∃ purge : PurgeUnit, s.purgeAdd = State.finish { s with purge := purge } .done ∧
      (heardState (s.link i).state →
        purge.set = (if n ∈ s.purge.set then s.purge.set else s.purge.set ++ [n]) ∧
          purge.window = some (s.now + s.settings.purgeWindow)) ∧
      (¬heardState (s.link i).state → purge.set = s.purge.set ∧ purge.window = s.purge.window) ∧
      purge.bars =
        if s.arg1.getLsbD 0 = true ∧ n.node ∉ s.purge.bars then s.purge.bars ++ [n.node] else s.purge.bars := by
  have hadd : s.purgeAdd =
      ((if (s.link i).state.estimated then s.joinPurge n else s).joinBars n.node).finish .done := by
    unfold State.purgeAdd
    simp only [he, hn, hi, Bool.not_true, Bool.false_eq_true, if_false, if_neg hroom]
  rw [hadd]
  by_cases hheard : (s.link i).state.estimated = true
  · rw [if_pos hheard, State.joinBars_eq]
    refine ⟨_, rfl, fun _ => ⟨?_, rfl⟩, fun hno => absurd ((LinkState.estimated_iff _).1 hheard) hno, rfl⟩
    simp only [State.joinPurge, List.contains_eq_mem, decide_eq_true_eq]
  · rw [if_neg hheard, State.joinBars_eq]
    exact ⟨_, rfl, fun hyes => absurd ((LinkState.estimated_iff _).2 hyes) hheard, fun _ => ⟨rfl, rfl⟩, rfl⟩

/-- UNBAR of a listed node (R83). -/
theorem State.unbar_listed (h : hiHalf s.arg1 ∈ s.purge.bars) :
    s.unbar = State.finish
      { s with purge := { s.purge with bars := s.purge.bars.filter fun n => n != hiHalf s.arg1 } } .done := by
  rw [State.unbar, if_pos (List.contains_iff_mem.2 h)]

/-- UNBAR of a node that is not listed (R83). -/
theorem State.unbar_unlisted (h : hiHalf s.arg1 ∉ s.purge.bars) : s.unbar = s.finish .notFound := by
  rw [State.unbar, if_neg fun hc => h (List.contains_iff_mem.1 hc)]

/-- Settles O18: PURGE ADD by its refusals in their order, and the other commands by unfolding. -/
theorem purgeBarAndClearCommands : Obligations.PurgeBarAndClearCommands := by
  have hx (go : GoAccess) (s : State) (h : s.takesCommands) :
      exec (.purgeAdd go) s = .next (s.goBase 0x22 go.tag).purgeAdd := next_goWrite_taken h 0x22 go.tag State.purgeAdd
  refine ⟨fun go s h => ⟨fun he => ?state, fun he hbad => ?argument, fun hp he hgood =>
      ⟨fun hnone => ?notFound, fun i hi => ⟨fun hfull => ?full, fun hroom => ?done⟩⟩⟩,
    fun go s h => ⟨next_goWrite_taken h 0x23 go.tag State.purgeCancel, ⟨fun hbar => ?unbars, fun hbar => ?unbarRefused⟩,
      next_goWrite_taken h 0x35 go.tag State.clearCounters⟩⟩
  case state =>
    have hruns : s.engineRuns = false := State.engineRuns_false.2 he
    rw [hx go s h, State.purgeAdd, State.goBase_engineRuns, hruns]
    rfl
  case argument =>
    have hruns : s.engineRuns = true := State.engineRuns_iff.2 he
    rw [hx go s h, State.purgeAdd, State.goBase_engineRuns, hruns, State.purgeNamed_none (s := s.goBase 0x22 go.tag) hbad]
    rfl
  case notFound =>
    have hruns : s.engineRuns = true := State.engineRuns_iff.2 he
    rw [hx go s h, State.purgeAdd, State.goBase_engineRuns, hruns, State.purgeNamed_some (s := s.goBase 0x22 go.tag) hp hgood]
    simp only [State.findLink_eq_none (s := s.goBase 0x22 go.tag)
      (n := { node := hiHalf s.mailbox[0], port := ⟨s.mailbox[0].toNat / 0x100 % 256, hp⟩ }) hnone, State.goBase_arg1]
    rfl
  case full =>
    have hruns : (s.goBase 0x22 go.tag).engineRuns = true := State.engineRuns_iff.2 he
    rw [hx go s h, State.purgeAdd_full hruns (State.purgeNamed_some (s := s.goBase 0x22 go.tag) hp hgood) hi
      (((s.goBase 0x22 go.tag).purgeAdd_full_iff _ i).2 hfull)]
    rfl
  case done =>
    have hruns : (s.goBase 0x22 go.tag).engineRuns = true := State.engineRuns_iff.2 he
    obtain ⟨purge, heq, hspec⟩ := State.purgeAdd_done hruns (State.purgeNamed_some (s := s.goBase 0x22 go.tag) hp hgood) hi
      fun hfull => hroom (((s.goBase 0x22 go.tag).purgeAdd_full_iff _ i).1 hfull)
    exact ⟨purge, by rw [hx go s h, heq]; rfl, hspec⟩
  case unbars =>
    refine (next_goWrite_taken h 0x24 go.tag State.unbar).trans ?_
    rw [State.unbar_listed (s := s.goBase 0x24 go.tag) hbar]
    rfl
  case unbarRefused =>
    refine (next_goWrite_taken h 0x24 go.tag State.unbar).trans ?_
    rw [State.unbar_unlisted (s := s.goBase 0x24 go.tag) hbar]
    rfl

/-! ### READ LINK and READ SLOT -/

/-- A value that may be absent, placed (R40). -/
theorem placeOpt_eq (lo : Nat) (n : Option Nat) : placeOpt lo n = absentZero lo n := by
  cases n with
  | none =>
    show place lo 0 = 0
    simp [place]
  | some x => rfl

/-- The header-complete flag of a word (R8). -/
theorem completeBit_eq (marks : HeaderMarks) (w : HeaderIx) :
    completeBit marks w = placeFlag (20 + w.val) (decide (marks[w.val] = 0xF#4)) := by
  unfold completeBit headerComplete
  congr 1

/-- The five captured words, one by one. -/
theorem HeaderWords.toList_eq (ws : HeaderWords) : ws.toList = [ws[0], ws[1], ws[2], ws[3], ws[4]] :=
  List.ext_getElem (by simp) fun i _ hi => by
    match i, hi with
    | 0, _ | 1, _ | 2, _ | 3, _ | 4, _ => simp

/-- The area of a slot record, in the words of Table 9. -/
theorem slotArea_eq (r : SlotRecord) (now : Nat) : slotArea r now = r.snapshotWords now := by
  have hfive : List.finRange 5 = [0, 1, 2, 3, 4] := by decide
  have hsource : (r.source == some .composed) = decide (r.source = some .composed) := by
    rw [Bool.eq_iff_iff, beq_iff_eq, decide_eq_true_iff]
  have hrefusal : absentZero 0 (r.refusal.map fun x => x.code) =
      match r.refusal with | none => 0 | some .notMine => 1 | some .barred => 2 | some .loop => 3 := by
    cases r.refusal with
    | none => decide
    | some x => cases x <;> decide
  have hstate : r.state.code = (match r.state with
      | .vacant => 0 | .filling => 1 | .landed => 2 | .composed => 3 | .inSend => 4 | .awaitingOutcome => 5) := by
    cases r.state <;> rfl
  unfold slotArea slotMarkWords slotTailWords SlotRecord.snapshotWords
  rw [HeaderWords.toList_eq, hfive, hsource, hstate]
  simp only [List.map_cons, List.map_nil, completeBit_eq, placeOpt_eq, presentBit, List.cons_append, List.nil_append,
    hrefusal] <;> rfl

/-- READ LINK within the table (R171). -/
theorem State.readLink_done {i : LinkIx} (h : s.arg1.toNat % 256 = i.val) :
    s.readLink = (s.copySnapshot .link (BitVec.ofNat 16 i.val) (linkArea (s.link i))).finish .done := by
  have hfield : numField s.arg1 0 8 = i.val := (numField_eq s.arg1 0 8).trans (by omega)
  have hlt : numField s.arg1 0 8 < 32 := hfield ▸ i.isLt
  have hix : (⟨numField s.arg1 0 8, hlt⟩ : LinkIx) = i := Fin.ext hfield
  unfold State.readLink
  rw [dif_pos hlt, hix, hfield]

/-- READ LINK beyond the table (R171). -/
theorem State.readLink_refused (h : 31 < s.arg1.toNat % 256) : s.readLink = s.finish .badArgument := by
  have hfield : numField s.arg1 0 8 = s.arg1.toNat % 256 := (numField_eq s.arg1 0 8).trans (by omega)
  unfold State.readLink
  rw [dif_neg (by omega)]

/-- READ SLOT within the slots in use (R171). -/
theorem State.readSlot_done {k : SlotNo} (h : s.arg1.toNat % 0x10000 = k.val) (hk : k.val < s.slotCount) :
    s.readSlot = (s.copySnapshot .slot (BitVec.ofNat 16 k.val) (slotArea (s.slot k) s.now)).finish .done := by
  have hfield : numField s.arg1 0 16 = k.val := (numField_eq s.arg1 0 16).trans (by omega)
  have hlt : numField s.arg1 0 16 < 512 ∧ numField s.arg1 0 16 < s.slotCount := hfield ▸ ⟨k.isLt, hk⟩
  have hno : (⟨numField s.arg1 0 16, hlt.1⟩ : SlotNo) = k := Fin.ext hfield
  have hkey : loHalf s.arg1 = BitVec.ofNat 16 k.val := by
    rw [← hfield]
    exact (BitVec.ofNat_toNat 16 (loHalf s.arg1)).trans (BitVec.setWidth_eq _) |>.symm
  unfold State.readSlot
  rw [dif_pos hlt, hno, hkey]

/-- READ SLOT beyond the slots in use (R171). -/
theorem State.readSlot_refused (h : s.slotCount ≤ s.arg1.toNat % 0x10000) : s.readSlot = s.finish .badArgument := by
  have hfield : numField s.arg1 0 16 = s.arg1.toNat % 0x10000 := (numField_eq s.arg1 0 16).trans (by omega)
  unfold State.readSlot
  rw [dif_neg (by omega)]

/-- Settles O19: the copies by `readLink_done` and `readSlot_done`, the slot's layout by `slotArea_eq`. -/
theorem readLinkAndReadSlot : Obligations.ReadLinkAndReadSlot := by
  intro go s h
  have hlink : exec (.readLink go) s = .next (s.goBase 0x31 go.tag).readLink :=
    next_goWrite_taken h 0x31 go.tag State.readLink
  have hslot : exec (.readSlot go) s = .next (s.goBase 0x32 go.tag).readSlot :=
    next_goWrite_taken h 0x32 go.tag State.readSlot
  refine ⟨fun hbad => ?linkRefused, fun i hi => ?linkRead, fun hbad => ?slotRefused, fun k hk hin => ?slotRead⟩
  case linkRefused =>
    rw [hlink, State.readLink_refused (s := s.goBase 0x31 go.tag) hbad]
    rfl
  case linkRead =>
    rw [hlink, State.readLink_done (s := s.goBase 0x31 go.tag) hi]
    rfl
  case slotRefused =>
    rw [hslot, State.readSlot_refused (s := s.goBase 0x32 go.tag) hbad]
    rfl
  case slotRead =>
    rw [hslot, State.readSlot_done (s := s.goBase 0x32 go.tag) hk hin, slotArea_eq]
    rfl

end Sys2Proof.Machine
end

section
/-! PROOFS. The class-3 steps of commands (O20, O21). -/

namespace Sys2Proof.Machine

variable {s t : State}

/-! ### The layouts of a route entry and of the wanted list -/

/-- The area of a route entry, in the words of Table 9. -/
theorem routeArea_eq (e : RouteEntry) : routeArea e = e.snapshotWords := by
  have hstate : e.state.code = (match e.state with | .empty => 0 | .active => 1 | .orphan => 2) := by
    cases e.state <;> rfl
  unfold routeArea RouteEntry.snapshotWords
  simp only [choiceWord, candidateWords, placeOpt_eq, presentBit, List.cons_append, List.nil_append, hstate] <;> rfl

/-- The word of a wanted entry, in the words of Table 9. -/
theorem wantedWord_eq : wantedWord = WantedEntry.snapshotWord := by
  funext w
  have hstate : w.state.code = (match w.state with | .waiting => 1 | .found => 2 | .expired => 3) := by
    cases w.state <;> rfl
  unfold wantedWord WantedEntry.snapshotWord
  rw [hstate] <;> rfl

/-! ### The steps -/

/-- The class-3 step of the RUNNING command, when it is granted (R99). -/
theorem State.commandStep_granted (h : s.granted .command = true) {code : Byte} (hc : s.command.code = code)
    (f : State → State) : s.commandStep code f = f s.afterOtherStep := by
  rw [State.commandStep, h, hc, beq_self_eq_true]
  rfl

/-- Another requester's step leaves the route table. -/
theorem State.findRoute_afterOtherStep (s : State) (d : Node) : s.afterOtherStep.findRoute d = s.findRoute d := rfl

/-- READ ROUTE's step with an entry (R172). -/
theorem State.readRouteStepBody_found {i : RouteIx} (h : s.findRoute (hiHalf s.arg1) = some i) :
    s.readRouteStepBody =
      (s.copySnapshot .route (hiHalf s.arg1) (s.route i).snapshotWords).completeRunning .done := by
  unfold State.readRouteStepBody
  rw [h, ← routeArea_eq]

/-- READ ROUTE's step without an entry (R172). -/
theorem State.readRouteStepBody_none (h : s.findRoute (hiHalf s.arg1) = none) :
    s.readRouteStepBody = s.completeRunning .notFound := by
  unfold State.readRouteStepBody
  rw [h]

/-- READ WANTED's step (R172, R119). -/
theorem State.readWantedStepBody_eq (s : State) :
    s.readWantedStepBody =
      State.completeRunning { s.copySnapshot .wanted 0 (s.wanted.map WantedEntry.snapshotWord) with
        wanted := if s.arg1.getLsbD 0 = true then s.wanted.filter fun w => w.state == .waiting else s.wanted } .done := by
  have hkeep : (fun w : WantedEntry => !w.releasable) = fun w => w.state == .waiting := by
    funext w
    simp [WantedEntry.releasable, bne]
  unfold State.readWantedStepBody
  rw [wantedWord_eq, hkeep]
  split <;> rfl

/-- An entry that RELEASE WANTED may remove (R119). -/
theorem State.any_releasable_iff (s : State) (d : Node) :
    (s.wanted.any fun w => w.dest == d && w.releasable) = true ↔ ∃ w ∈ s.wanted, w.dest = d ∧ w.state ≠ .waiting := by
  simp [WantedEntry.releasable, List.any_eq_true]

/-- RELEASE WANTED's step with an answered entry (R119). -/
theorem State.releaseWantedStepBody_done (h : ∃ w ∈ s.wanted, w.dest = hiHalf s.arg1 ∧ w.state ≠ .waiting) :
    s.releaseWantedStepBody =
      State.completeRunning { s with wanted := s.wanted.filter fun w => w.dest != hiHalf s.arg1 } .done := by
  rw [State.releaseWantedStepBody, if_pos ((s.any_releasable_iff _).2 h)]

/-- RELEASE WANTED's step without an answered entry (R119). -/
theorem State.releaseWantedStepBody_none (h : ∀ w ∈ s.wanted, w.dest = hiHalf s.arg1 → w.state = .waiting) :
    s.releaseWantedStepBody = s.completeRunning .notFound := by
  have hno : ¬∃ w ∈ s.wanted, w.dest = hiHalf s.arg1 ∧ w.state ≠ .waiting := fun ⟨w, hw, hd, hst⟩ => hst (h w hw hd)
  rw [State.releaseWantedStepBody, if_neg fun h' => hno ((s.any_releasable_iff _).1 h')]

/-- Settles O20: each step's body by its equation. -/
theorem readAndReleaseSteps : Obligations.ReadAndReleaseSteps := by
  intro s hgrant done dest
  refine ⟨fun hc => ⟨fun i hi => ?routeFound, fun hnone => ?routeNone⟩, fun hc => ?wanted,
    fun hc => ⟨fun hsome => ?released, fun hwaits => ?unreleased⟩⟩
  case routeFound =>
    refine congrArg Host.Outcome.next ((State.commandStep_granted hgrant hc _).trans ?_)
    rw [State.readRouteStepBody_found (s := s.afterOtherStep) hi]
    rfl
  case routeNone =>
    refine congrArg Host.Outcome.next ((State.commandStep_granted hgrant hc _).trans ?_)
    rw [State.readRouteStepBody_none (s := s.afterOtherStep) hnone]
    rfl
  case wanted =>
    refine congrArg Host.Outcome.next ((State.commandStep_granted hgrant hc _).trans ?_)
    rw [State.readWantedStepBody_eq]
    rfl
  case released =>
    refine congrArg Host.Outcome.next ((State.commandStep_granted hgrant hc _).trans ?_)
    rw [State.releaseWantedStepBody_done (s := s.afterOtherStep) hsome]
    rfl
  case unreleased =>
    refine congrArg Host.Outcome.next ((State.commandStep_granted hgrant hc _).trans ?_)
    rw [State.releaseWantedStepBody_none (s := s.afterOtherStep) hwaits]
    rfl

/-! ### What an operation raises -/

/-- Equal event units: nothing is raised (R178). -/
theorem State.onlyRaises_of_events (h : t.events = s.events) (es : List EventSource) : s.onlyRaises t es := by
  refine ⟨congrArg EventUnit.threshold h, fun e => ⟨?_, ?_, fun _ => ?_⟩⟩
  · rw [h]
  · rw [h]
  · rw [State.pendingOf, h]
    rfl

/-- A raise raises its source alone (R178). -/
theorem State.onlyRaises_raise (s : State) (e : EventSource) : s.onlyRaises (s.raise e) [e] := by
  refine ⟨rfl, fun f => ?_⟩
  by_cases hf : f = e
  · subst hf
    have hat : (s.raise f).events.at f.ix = { s.events.at f.ix with pending := true } := EventUnit.at_put_same ..
    rw [hat]
    exact ⟨rfl, rfl, fun h => absurd (List.mem_singleton.2 rfl) h⟩
  · have hat : (s.raise e).events.at f.ix = s.events.at f.ix :=
      EventUnit.at_put_other _ _ fun h => hf (EventSource.ix_inj h)
    rw [hat]
    exact ⟨rfl, rfl, fun _ => State.pendingOf_raise_other s hf⟩

/-- A conditional raise raises its source alone (R178). -/
theorem State.onlyRaises_raiseIf (s : State) (c : Bool) (e : EventSource) : s.onlyRaises (s.raiseIf c e) [e] := by
  cases c
  · exact State.onlyRaises_of_events rfl _
  · exact s.onlyRaises_raise e

/-- A longer list allows as much. -/
theorem State.onlyRaises.mono {es fs : List EventSource} (h : s.onlyRaises t es) (hsub : es ⊆ fs) : s.onlyRaises t fs := by
  obtain ⟨hthreshold, hall⟩ := h
  refine ⟨hthreshold, fun e => ?_⟩
  obtain ⟨hservice, hpriority, hpending⟩ := hall e
  exact ⟨hservice, hpriority, fun he => hpending fun he' => he (hsub he')⟩

/-- What two operations in turn raise. -/
theorem State.onlyRaises.trans {u : State} {es fs : List EventSource} (h : s.onlyRaises t es) (h' : t.onlyRaises u fs) :
    s.onlyRaises u (es ++ fs) := by
  obtain ⟨hthreshold, hall⟩ := h
  obtain ⟨hthreshold', hall'⟩ := h'
  refine ⟨hthreshold'.trans hthreshold, fun e => ?_⟩
  obtain ⟨hservice, hpriority, hpending⟩ := hall e
  obtain ⟨hservice', hpriority', hpending'⟩ := hall' e
  refine ⟨hservice'.trans hservice, hpriority'.trans hpriority, fun he => ?_⟩
  rw [List.mem_append, not_or] at he
  exact (hpending' he.2).trans (hpending he.1)

/-! ### A selection with its reports -/

/-- A selection reads the neighbour table and the settings alone (R107). -/
theorem State.selected_congr (hl : t.links = s.links) (hs : t.settings = s.settings) (e : RouteEntry) :
    t.selected e = s.selected e := by
  cases s
  cases t
  cases hl
  cases hs
  rfl

/-- A selection keeps the destination. -/
@[simp] theorem State.selected_dest (s : State) (e : RouteEntry) : (s.selected e).dest = e.dest := rfl

/-- A selection keeps the gateway flag. -/
@[simp] theorem State.selected_gateway (s : State) (e : RouteEntry) : (s.selected e).gateway = e.gateway := rfl

/-- The condition of ROUTE-FOUND (R108, R117). -/
theorem State.reportFound_iff (s : State) (e e' : RouteEntry) :
    (e.primary.isNone && e'.primary.isSome && s.waitsFor e'.dest) = true ↔
      e.primary = none ∧ e'.primary ≠ none ∧ ∃ w ∈ s.wanted, w.dest = e'.dest ∧ w.state = .waiting := by
  simp [State.waitsFor, Option.isSome_iff_ne_none, and_assoc]

/-- What a selection leaves unchanged. -/
theorem State.reselect_kept (s : State) (i : RouteIx) (e : RouteEntry) :
    let t := s.reselect i e
    t.links = s.links ∧ t.counters = s.counters ∧ t.mem = s.mem ∧ t.bus = s.bus ∧ t.slots = s.slots ∧
      t.command = s.command ∧ t.verdicts = s.verdicts ∧ t.purge = s.purge ∧ t.walker = s.walker ∧
      t.settings = s.settings ∧ t.engine = s.engine := by
  intro t
  have ht : t = _ := s.reselect_eq i e
  rw [ht]
  exact ⟨rfl, rfl, rfl, rfl, rfl, rfl, rfl, rfl, rfl, rfl, rfl⟩

/-- A selection's entry is stored (R107). -/
theorem State.route_reselect_same (s : State) (i : RouteIx) (e : RouteEntry) : (s.reselect i e).route i = s.selected e := by
  rw [State.reselect_eq]
  exact State.route_setRoute_same ..

/-- A selection leaves the other entries. -/
theorem State.route_reselect_other (s : State) {i j : RouteIx} (e : RouteEntry) (h : j ≠ i) :
    (s.reselect i e).route j = s.route j := by
  rw [State.reselect_eq]
  exact State.route_setRoute_other _ _ h

/-- A selection's events, ROUTE-FOUND and GATEWAY-CHANGE (R108). -/
theorem State.reselect_onlyRaises (s : State) (i : RouteIx) (e : RouteEntry) :
    s.onlyRaises (s.reselect i e) [.routeFound, .gatewayChange] := by
  have hfound : s.onlyRaises ((s.setRoute i (s.selected e)).reportFound e (s.selected e)) [.routeFound] := by
    unfold State.reportFound
    split
    · exact State.onlyRaises_raise { s.setRoute i (s.selected e) with wanted := _ } .routeFound
    · exact State.onlyRaises_of_events rfl _
  exact hfound.trans (State.onlyRaises_raiseIf _ _ _)

/-- A selection's reports (R108, R117). -/
theorem State.reselect_reports (s : State) (i : RouteIx) (e : RouteEntry) :
    s.selectionReports (s.reselect i e) e (s.selected e) := by
  have hpending (f : EventSource) (c : Bool) (u : State) :
      (u.raiseIf c .gatewayChange).pendingOf f = (u.pendingOf f || (c && decide (f = .gatewayChange))) :=
    State.pendingOf_raiseIf ..
  have hgateway : ∀ u : State, (u.reportGateway e (s.selected e)).pendingOf .gatewayChange =
      (u.pendingOf .gatewayChange ||
        (e.gateway && decide ((e.primary.map fun c => c.link) ≠ (s.selected e).primary.map fun c => c.link))) := by
    intro u
    rw [State.reportGateway, hpending, State.selected_gateway]
    simp [choiceLink, bne, Bool.beq_eq_decide_eq]
  have hother : ∀ u : State, (u.reportGateway e (s.selected e)).pendingOf .routeFound = u.pendingOf .routeFound := by
    intro u
    rw [State.reportGateway, hpending]
    simp
  have hwanted : ∀ u : State, (u.reportGateway e (s.selected e)).wanted = u.wanted := by
    intro u
    rw [State.reportGateway_eq]
  unfold State.reselect State.selectionReports
  dsimp only
  rw [hgateway, hother, hwanted]
  by_cases hf : e.primary = none ∧ (s.selected e).primary ≠ none ∧ ∃ w ∈ s.wanted, w.dest = e.dest ∧ w.state = .waiting
  · have hc := ((s.setRoute i (s.selected e)).reportFound_iff e (s.selected e)).2 hf
    rw [State.reportFound, if_pos hc]
    refine ⟨fun _ => ⟨State.pendingOf_raise_same _ _, rfl⟩, fun hno => absurd hf hno, ?_⟩
    rw [State.pendingOf_raise_other _ (by decide)]
    rfl
  · have hc := fun h => hf (((s.setRoute i (s.selected e)).reportFound_iff e (s.selected e)).1 h)
    rw [State.reportFound, if_neg hc]
    exact ⟨fun hyes => absurd hyes hf, fun _ => ⟨rfl, rfl⟩, rfl⟩

/-- The reports speak of the wanted list and two events alone. -/
theorem State.selectionReports.congr {s' t' : State} {e e' : RouteEntry} (h : s.selectionReports t e e')
    (hw : s'.wanted = s.wanted) (hf : s'.pendingOf .routeFound = s.pendingOf .routeFound)
    (hg : s'.pendingOf .gatewayChange = s.pendingOf .gatewayChange) (hw' : t'.wanted = t.wanted)
    (hf' : t'.pendingOf .routeFound = t.pendingOf .routeFound)
    (hg' : t'.pendingOf .gatewayChange = t.pendingOf .gatewayChange) : s'.selectionReports t' e e' := by
  unfold State.selectionReports at h ⊢
  rw [hw, hf, hg, hw', hf', hg']
  exact h

/-! ### PIN ROUTE and UNPIN -/

/-- A selection's command completes: everything but the entry, the reports and the command stays. -/
theorem State.reselect_completes (s : State) (i : RouteIx) (e : RouteEntry) (r : Result) :
    let t := (s.afterOtherStep.reselect i e).completeRunning r
    (t.command = { s.command with running := false, result := r } ∧ t.pendingOf .commandDone = true ∧
      t.links = s.links ∧ t.counters = s.counters ∧ t.mem = s.mem ∧ t.bus = s.bus ∧ t.slots = s.slots ∧
      s.onlyRaises t [.commandDone, .routeFound, .gatewayChange]) ∧
    t.route i = s.selected e ∧ (∀ j, j ≠ i → t.route j = s.route j) ∧ s.selectionReports t e (s.selected e) := by
  intro t
  have hselected : s.afterOtherStep.selected e = s.selected e := State.selected_congr rfl rfl e
  have hraised : (s.afterOtherStep.reselect i e).onlyRaises t [.commandDone] :=
    State.onlyRaises_raise { s.afterOtherStep.reselect i e with command := _ } .commandDone
  have hreports : s.selectionReports (s.afterOtherStep.reselect i e) e (s.selected e) :=
    hselected ▸ (s.afterOtherStep.reselect_reports i e).congr rfl rfl rfl rfl rfl rfl
  obtain ⟨-, hall⟩ := id hraised
  obtain ⟨hlinks, hcounters, hmem, hbus, hslots, hcommand, -⟩ := s.afterOtherStep.reselect_kept i e
  refine ⟨⟨?command, State.pendingOf_raise_same _ _, hlinks, hcounters, hmem, hbus, hslots, ?raises⟩, ?entry, fun j hj => ?others,
    hreports.congr rfl rfl rfl rfl ((hall .routeFound).2.2 (by decide)) ((hall .gatewayChange).2.2 (by decide))⟩
  case command =>
    show { (s.afterOtherStep.reselect i e).command with running := false, result := r } = _
    rw [hcommand]
    rfl
  case raises =>
    have hselection : s.onlyRaises (s.afterOtherStep.reselect i e) [.routeFound, .gatewayChange] :=
      s.afterOtherStep.reselect_onlyRaises i e
    exact (hselection.trans hraised).mono (by decide)
  case entry => exact (s.afterOtherStep.route_reselect_same i e).trans hselected
  case others => exact s.afterOtherStep.route_reselect_other e hj

/-- A command that its step refuses completes: the tables stay. -/
theorem State.refuses_completes (s : State) (r : Result) :
    let t := s.afterOtherStep.completeRunning r
    (t.command = { s.command with running := false, result := r } ∧ t.pendingOf .commandDone = true ∧
      t.links = s.links ∧ t.counters = s.counters ∧ t.mem = s.mem ∧ t.bus = s.bus ∧ t.slots = s.slots ∧
      s.onlyRaises t [.commandDone, .routeFound, .gatewayChange]) ∧
    t.routes = s.routes ∧ t.wanted = s.wanted ∧ s.onlyRaises t [.commandDone] := by
  intro t
  have hdone : s.onlyRaises t [.commandDone] :=
    State.onlyRaises_raise { s.afterOtherStep with command := _ } .commandDone
  exact ⟨⟨rfl, State.pendingOf_raise_same _ _, rfl, rfl, rfl, rfl, rfl, hdone.mono (by decide)⟩, rfl, rfl, hdone⟩

/-- The pin that PIN ROUTE names (R113). -/
theorem State.pinNamed_eq {p : Port} (h : s.arg2.toNat / 0x1000000 = p.val) :
    s.pinNamed = { link := { node := loHalf s.arg1, port := p }, cost := s.arg2.toNat % 0x10000 } := by
  have hport : numField s.arg2 24 8 = p.val := (regionFields s.arg2 s.arg2).1.trans h
  have hcost : (loHalf s.arg2).toNat = s.arg2.toNat % 0x10000 := (regionFields s.arg2 s.arg2).2.2
  have hp : portOf (numField s.arg2 24 8) = p := by
    unfold portOf
    rw [hport, dif_pos p.isLt]
  unfold State.pinNamed
  rw [hp, hcost]

/-- PIN ROUTE's step on an entry in use (R113). -/
theorem State.pinStepBody_found {i : RouteIx} {p : Port} (hp : s.arg2.toNat / 0x1000000 = p.val)
    (h : s.findRoute (hiHalf s.arg1) = some i) :
    let pin : Pin := { link := { node := loHalf s.arg1, port := p }, cost := s.arg2.toNat % 0x10000 }
    s.pinStepBody = (s.reselect i { s.route i with pin := some pin }).completeRunning .done := by
  unfold State.pinStepBody
  simp only [h, ← State.pinNamed_eq hp]
  rfl

/-- PIN ROUTE's step on an entry that it takes (R113, R102). -/
theorem State.pinStepBody_takes {i : RouteIx} {p : Port} (hp : s.arg2.toNat / 0x1000000 = p.val)
    (h : s.findRoute (hiHalf s.arg1) = none) (hi : s.takeable = some i) :
    let pin : Pin := { link := { node := loHalf s.arg1, port := p }, cost := s.arg2.toNat % 0x10000 }
    s.pinStepBody =
      (s.reselect i { RouteEntry.empty with state := .orphan, dest := hiHalf s.arg1, pin := some pin }).completeRunning
        .done := by
  unfold State.pinStepBody
  simp only [h, hi, ← State.pinNamed_eq hp]
  rfl

/-- PIN ROUTE's step without an entry to take (R113). -/
theorem State.pinStepBody_full (h : s.findRoute (hiHalf s.arg1) = none) (hi : s.takeable = none) :
    s.pinStepBody = s.completeRunning .full := by
  unfold State.pinStepBody
  simp only [h, hi]

/-- UNPIN's step on a pinned entry (R114). -/
theorem State.unpinStepBody_done {i : RouteIx} (h : s.findRoute (hiHalf s.arg1) = some i) (hp : (s.route i).pin ≠ none) :
    s.unpinStepBody = (s.reselect i { s.route i with pin := none }).completeRunning .done := by
  unfold State.unpinStepBody
  simp only [h, if_pos (Option.isSome_iff_ne_none.2 hp)]

/-- UNPIN's step without a pinned entry (R114). -/
theorem State.unpinStepBody_none (h : ∀ i, s.findRoute (hiHalf s.arg1) = some i → (s.route i).pin = none) :
    s.unpinStepBody = s.completeRunning .notFound := by
  unfold State.unpinStepBody
  cases hf : s.findRoute (hiHalf s.arg1) with
  | none => rfl
  | some i =>
    simp only [h i hf]
    rfl

/-- Settles O21: each step's body by its equation, its effects by `reselect_completes` and `refuses_completes`. -/
theorem pinSteps : Obligations.PinSteps := by
  intro s hgrant dest ended onlyAt unchanged
  have step {code : Byte} {f : State → State} {u : State} (hc : s.command.code = code) (hf : f s.afterOtherStep = u) :
      (Host.Outcome.next (s.commandStep code f) : Host.Outcome State Fault Refusal) = .next u :=
    congrArg Host.Outcome.next ((State.commandStep_granted hgrant hc f).trans hf)
  refine ⟨fun hc => ⟨fun p hp => ⟨fun i hi => ?pinFound, fun hnone i hi => ?pinTakes⟩, fun hnone hi => ?pinFull⟩,
    fun hc => ⟨fun i hi hpinned => ?unpins, fun hnone => ?unpinRefused⟩⟩
  case pinFound =>
    exact ⟨_, step hc (State.pinStepBody_found (s := s.afterOtherStep) hp hi), s.reselect_completes i _ .done⟩
  case pinTakes =>
    exact ⟨_, step hc (State.pinStepBody_takes (s := s.afterOtherStep) hp hnone hi), s.reselect_completes i _ .done⟩
  case pinFull => exact ⟨_, step hc (State.pinStepBody_full (s := s.afterOtherStep) hnone hi), s.refuses_completes .full⟩
  case unpins =>
    exact ⟨_, step hc (State.unpinStepBody_done (s := s.afterOtherStep) hi hpinned), s.reselect_completes i _ .done⟩
  case unpinRefused =>
    exact ⟨_, step hc (State.unpinStepBody_none (s := s.afterOtherStep) hnone), s.refuses_completes .notFound⟩

end Sys2Proof.Machine
end

section
/-! PROOFS. Table lookups, selection and the sequence test (O47, O49, O50). -/

namespace Sys2Proof.Machine

variable {s t : State}

/-! ### The sequence test -/

/-- Settles O50: the serial difference decides among the three branches. -/
theorem sequenceTestIsR103 : Obligations.SequenceTestIsR103 := by
  intro e o taken
  refine ⟨fun hnone => ?first, fun q hq => ⟨fun ⟨hpos, hle⟩ => ?newer, fun heq => ?equal, fun hge => ?stale⟩⟩
  case first => simp only [RouteEntry.afterSequence, hnone, taken]
  case newer =>
    have hnew : seqNewer o.seq q = true := by
      simp only [seqNewer, Bool.and_eq_true, decide_eq_true_eq]
      omega
    simp only [RouteEntry.afterSequence, hq, hnew, if_true, taken]
  case equal =>
    have hnew : seqNewer o.seq q = false := by simp [seqNewer, heq]
    simp only [RouteEntry.afterSequence, hq, hnew, Bool.false_eq_true, if_false, if_pos heq]
  case stale =>
    have hnew : seqNewer o.seq q = false := by
      simp only [seqNewer, Bool.and_eq_false_iff, decide_eq_false_iff_not]
      omega
    have hne : o.seq ≠ q := by
      rintro rfl
      simp at hge
    simp only [RouteEntry.afterSequence, hq, hnew, Bool.false_eq_true, if_false, if_neg hne]

/-! ### The first of a list of indexes, and the best of a list -/

/-- The first index that passes a test. -/
theorem find?_finRange_eq_some {n : Nat} {p : Fin n → Bool} {i : Fin n} :
    (List.finRange n).find? p = some i ↔ p i = true ∧ ∀ j, j < i → p j = false := by
  rw [List.find?_eq_some_iff_getElem]
  simp only [List.getElem_finRange, List.length_finRange, Bool.not_eq_eq_eq_not, Bool.not_true]
  refine and_congr_right fun _ => ⟨?_, fun h => ⟨i.val, i.isLt, rfl, fun j hj => h _ (Fin.lt_def.2 hj)⟩⟩
  rintro ⟨k, hk, rfl, h⟩ j hj
  exact h j.val hj

/-- No index passes a test. -/
theorem find?_finRange_eq_none {n : Nat} {p : Fin n → Bool} :
    (List.finRange n).find? p = none ↔ ∀ i, p i = false := by
  simp [List.find?_eq_none]

/-- Induction on a list from its tail. -/
theorem list_concat_induction {α : Type} {motive : List α → Prop} (nil : motive [])
    (append_singleton : ∀ l a, motive l → motive (l ++ [a])) (l : List α) : motive l := by
  have hreverse (k : List α) : motive k.reverse := by
    induction k with
    | nil => exact nil
    | cons a k ih =>
      rw [List.reverse_cons]
      exact append_singleton _ a ih
  exact l.reverse_reverse ▸ hreverse l.reverse

section Best

variable {α : Type} (better : α → α → Prop) [DecidableRel better]

/-- The first of the best elements of a list. -/
def firstBest (cs : List α) : Option α :=
  cs.foldl
    (fun b c =>
      match b with
      | none => some c
      | some d => if better c d then some c else some d)
    none

/-- The best of a longer list. -/
theorem firstBest_append (cs : List α) (c : α) :
    firstBest better (cs ++ [c]) =
      match firstBest better cs with
      | none => some c
      | some d => if better c d then some c else some d := by
  simp only [firstBest, List.foldl_append, List.foldl_cons, List.foldl_nil]

/-- Only an empty list has no best element. -/
theorem firstBest_eq_none {cs : List α} : firstBest better cs = none ↔ cs = [] := by
  induction cs using list_concat_induction with
  | nil => exact ⟨fun _ => rfl, fun _ => rfl⟩
  | append_singleton cs c _ =>
    rw [firstBest_append]
    cases firstBest better cs with
    | none => simp
    | some d =>
      dsimp only
      split <;> simp

variable {better}

/-- The best element goes before the elements in front of it, and none behind it goes before it. -/
theorem firstBest_split (trans : ∀ a b c, better a b → better b c → better a c)
    (neg : ∀ a b c, better a c → better a b ∨ better b c) {cs : List α} {b : α} (h : firstBest better cs = some b) :
    ∃ front back, cs = front ++ b :: back ∧ (∀ c ∈ front, better b c) ∧ ∀ c ∈ back, ¬better c b := by
  induction cs using list_concat_induction generalizing b with
  | nil => exact nomatch h
  | append_singleton cs c ih =>
    rw [firstBest_append] at h
    cases hcs : firstBest better cs with
    | none =>
      rw [hcs] at h
      cases (firstBest_eq_none better).1 hcs
      cases h
      exact ⟨[], [], rfl, by simp, by simp⟩
    | some d =>
      rw [hcs] at h
      obtain ⟨front, back, rfl, hfront, hback⟩ := ih hcs
      by_cases hc : better c d
      · cases (if_pos hc).symm.trans h
        refine ⟨front ++ d :: back, [], rfl, fun x hx => ?_, by simp⟩
        rcases List.mem_append.1 hx with hx | hx
        · exact trans _ _ _ hc (hfront x hx)
        · rcases List.mem_cons.1 hx with rfl | hx
          · exact hc
          · exact (neg _ x _ hc).resolve_right (hback x hx)
      · cases (if_neg hc).symm.trans h
        refine ⟨front, back ++ [c], by simp, hfront, fun x hx => ?_⟩
        rcases List.mem_append.1 hx with hx | hx
        · exact hback x hx
        · exact List.mem_singleton.1 hx ▸ hc

/-- The best element of a list is one of it. -/
theorem firstBest_mem {cs : List α} {b : α} (h : firstBest better cs = some b) : b ∈ cs := by
  induction cs using list_concat_induction generalizing b with
  | nil => exact nomatch h
  | append_singleton cs c ih =>
    rw [firstBest_append] at h
    cases hcs : firstBest better cs with
    | none =>
      rw [hcs] at h
      cases h
      simp
    | some d =>
      rw [hcs] at h
      dsimp only at h
      split at h
      · cases h
        simp
      · cases h
        exact List.mem_append_left _ (ih hcs)

/-- An element that goes before those in front of it, and that none behind it goes before, is the best. -/
theorem firstBest_of_split {front back : List α} {b : α} (hfront : ∀ c ∈ front, better b c) (hback : ∀ c ∈ back, ¬better c b) :
    firstBest better (front ++ b :: back) = some b := by
  induction back using list_concat_induction with
  | nil =>
    rw [firstBest_append]
    cases hf : firstBest better front with
    | none => rfl
    | some d => exact if_pos (hfront d (firstBest_mem hf))
  | append_singleton back c ih =>
    have hassoc : front ++ b :: (back ++ [c]) = (front ++ b :: back) ++ [c] := by simp
    rw [hassoc, firstBest_append, ih fun x hx => hback x (List.mem_append_left _ hx)]
    exact if_neg (hback c (by simp))

/-- Nothing goes before the best element. -/
theorem firstBest_best (trans : ∀ a b c, better a b → better b c → better a c)
    (neg : ∀ a b c, better a c → better a b ∨ better b c) (irrefl : ∀ a, ¬better a a) {cs : List α} {b : α}
    (h : firstBest better cs = some b) : b ∈ cs ∧ ∀ c ∈ cs, ¬better c b := by
  obtain ⟨front, back, rfl, hfront, hback⟩ := firstBest_split trans neg h
  refine ⟨by simp, fun c hc => ?_⟩
  rcases List.mem_append.1 hc with hc | hc
  · exact fun hcb => irrefl _ (trans _ _ _ hcb (hfront c hc))
  · rcases List.mem_cons.1 hc with rfl | hc
    · exact irrefl _
    · exact hback c hc

end Best

/-! ### Lookups -/

/-- The test by which a link is found (R65, R26). -/
theorem State.holdsLink_iff (s : State) (n : LinkName) (i : LinkIx) :
    s.holdsLink n i ↔ notANode n.node = false ∧
      ((s.link i).state != .free && (s.link i).node == n.node && (s.link i).port == n.port) = true := by
  simp only [State.holdsLink, notANode_eq_false, Bool.and_eq_true, bne_iff_ne, beq_iff_eq, ne_eq, and_assoc]

/-- A link is found at the lowest index that holds it (R65, R26). -/
theorem State.findLink_eq_some (s : State) (n : LinkName) (i : LinkIx) :
    s.findLink n = some i ↔ s.holdsLink n i ∧ ∀ j, j < i → ¬s.holdsLink n j := by
  simp only [State.holdsLink_iff]
  unfold State.findLink
  by_cases hn : notANode n.node = true
  · simp [hn]
  · rw [Bool.not_eq_true] at hn
    simp only [hn, Bool.false_eq_true, if_false, find?_finRange_eq_some, true_and, Bool.not_eq_true]

/-- A link is not found when no entry holds it (R65). -/
theorem State.findLink_eq_none_iff (s : State) (n : LinkName) : s.findLink n = none ↔ ∀ i, ¬s.holdsLink n i := by
  simp only [State.holdsLink_iff]
  unfold State.findLink
  by_cases hn : notANode n.node = true
  · simp [hn]
  · rw [Bool.not_eq_true] at hn
    simp only [hn, Bool.false_eq_true, if_false, find?_finRange_eq_none, true_and, Bool.not_eq_true]

/-- A destination is found at the lowest index in use for it (R97). -/
theorem State.findRoute_eq_some (s : State) (d : Node) (i : RouteIx) :
    s.findRoute d = some i ↔ ((s.route i).state ≠ .empty ∧ (s.route i).dest = d) ∧
      ∀ j, j < i → ¬((s.route j).state ≠ .empty ∧ (s.route j).dest = d) := by
  unfold State.findRoute allRoutes
  simp only [find?_finRange_eq_some, Bool.and_eq_true, bne_iff_ne, beq_iff_eq, ← Bool.not_eq_true]

/-- A destination is not found when no entry is in use for it (R97). -/
theorem State.findRoute_eq_none (s : State) (d : Node) :
    s.findRoute d = none ↔ ∀ i, ¬((s.route i).state ≠ .empty ∧ (s.route i).dest = d) := by
  unfold State.findRoute allRoutes
  simp only [find?_finRange_eq_none, Bool.and_eq_true, bne_iff_ne, beq_iff_eq, ← Bool.not_eq_true]

/-- An ORPHAN entry without a pin (R102). -/
def State.isOrphan (s : State) (i : RouteIx) : Prop := (s.route i).state = .orphan ∧ (s.route i).pin = none

/-- The indexes of the ORPHAN entries without a pin. -/
def State.orphans (s : State) : List RouteIx :=
  allRoutes.filter fun i => (s.route i).state == .orphan && (s.route i).pin.isNone

/-- The orphans are the entries that R102 may take. -/
theorem State.mem_orphans {i : RouteIx} : i ∈ s.orphans ↔ s.isOrphan i := by
  simp [State.orphans, allRoutes, State.isOrphan]

/-- The oldest orphan is the best by age. -/
theorem State.oldestOrphan_eq (s : State) :
    s.oldestOrphan = firstBest (fun i j => (s.route j).age < (s.route i).age) s.orphans := by
  unfold State.oldestOrphan State.orphans firstBest
  rw [List.foldl_filter]
  refine congrArg (fun f => allRoutes.foldl f none) (funext fun b => funext fun i => ?_)
  cases b <;> rfl

/-- The oldest orphan, the lowest index among equals (R102). -/
theorem State.oldestOrphan_eq_some (s : State) (i : RouteIx) :
    s.oldestOrphan = some i ↔ s.isOrphan i ∧
      ∀ j, s.isOrphan j → (s.route j).age < (s.route i).age ∨ ((s.route j).age = (s.route i).age ∧ i ≤ j) := by
  have hsorted : s.orphans.Pairwise (· < ·) := (List.pairwise_lt_finRange 256).filter _
  rw [State.oldestOrphan_eq]
  constructor
  · intro h
    obtain ⟨front, back, hlist, hfront, hback⟩ := firstBest_split
      (fun a b c (h : (s.route b).age < (s.route a).age) (h' : (s.route c).age < (s.route b).age) => Nat.lt_trans h' h)
      (fun a b c (h : (s.route c).age < (s.route a).age) => Nat.lt_or_ge _ _ |>.imp_right fun hle => Nat.lt_of_lt_of_le h hle) h
    rw [hlist] at hsorted
    obtain ⟨-, htail, -⟩ := List.pairwise_append.1 hsorted
    refine ⟨State.mem_orphans.1 (hlist ▸ by simp), fun j hj => ?_⟩
    have hmem := State.mem_orphans.2 hj
    rw [hlist] at hmem
    rcases List.mem_append.1 hmem with hj | hj
    · exact .inl (hfront j hj)
    · rcases List.mem_cons.1 hj with rfl | hj
      · exact .inr ⟨rfl, Fin.le_refl _⟩
      · have hlt := (List.pairwise_cons.1 htail).1 j hj
        rcases Nat.lt_or_eq_of_le (Nat.le_of_not_lt (hback j hj)) with h | h
        · exact .inl h
        · exact .inr ⟨h, Fin.le_of_lt hlt⟩
  · rintro ⟨hi, hall⟩
    obtain ⟨front, back, hlist⟩ := List.append_of_mem (State.mem_orphans.2 hi)
    rw [hlist] at hsorted ⊢
    obtain ⟨-, -, hcross⟩ := List.pairwise_append.1 hsorted
    refine firstBest_of_split (fun j hj => ?_) fun j hj => ?_
    · have hlt := hcross j hj i (by simp)
      exact (hall j (State.mem_orphans.1 (hlist ▸ by simp [hj]))).resolve_right fun ⟨_, hle⟩ => absurd hlt (Fin.not_lt.2 hle)
    · rcases hall j (State.mem_orphans.1 (hlist ▸ by simp [hj])) with h | ⟨h, -⟩ <;> omega

/-- There is no oldest orphan when there is none (R102). -/
theorem State.oldestOrphan_eq_none (s : State) : s.oldestOrphan = none ↔ ∀ i, ¬s.isOrphan i := by
  rw [State.oldestOrphan_eq, firstBest_eq_none, List.eq_nil_iff_forall_not_mem]
  simp only [State.mem_orphans]

/-- The lowest EMPTY entry (R102). -/
theorem State.emptyRoute_eq_some (s : State) (i : RouteIx) :
    s.emptyRoute = some i ↔ (s.route i).state = .empty ∧ ∀ j, j < i → (s.route j).state ≠ .empty := by
  unfold State.emptyRoute allRoutes
  simp only [find?_finRange_eq_some, beq_iff_eq, beq_eq_false_iff_ne]

/-- There is no EMPTY entry. -/
theorem State.emptyRoute_eq_none (s : State) : s.emptyRoute = none ↔ ∀ i, (s.route i).state ≠ .empty := by
  unfold State.emptyRoute allRoutes
  simp only [find?_finRange_eq_none, beq_eq_false_iff_ne]

/-- The entry that a new destination takes (R102). -/
theorem State.takeable_eq_some (s : State) (i : RouteIx) :
    s.takeable = some i ↔
      ((s.route i).state = .empty ∧ ∀ j, j < i → (s.route j).state ≠ .empty) ∨
      ((∀ j, (s.route j).state ≠ .empty) ∧ s.isOrphan i ∧
        ∀ j, s.isOrphan j → (s.route j).age < (s.route i).age ∨ ((s.route j).age = (s.route i).age ∧ i ≤ j)) := by
  rw [← State.emptyRoute_eq_some, ← State.emptyRoute_eq_none, ← State.oldestOrphan_eq_some]
  unfold State.takeable
  cases s.emptyRoute <;> simp

/-- No entry can be taken (R102). -/
theorem State.takeable_eq_none (s : State) :
    s.takeable = none ↔ ∀ i, (s.route i).state ≠ .empty ∧ ¬s.isOrphan i := by
  rw [forall_and, ← State.emptyRoute_eq_none, ← State.oldestOrphan_eq_none]
  unfold State.takeable
  cases s.emptyRoute <;> simp

/-- The stale-link flag is clear exactly over a LIVE link (R56). -/
theorem State.staleFlag_eq_false (s : State) (n : LinkName) :
    s.staleFlag n = false ↔ ∃ i, s.findLink n = some i ∧ (s.link i).state = .live := by
  unfold State.staleFlag
  cases s.findLink n with
  | none => simp
  | some i => simp

/-- The bits of a port mask (R55). -/
theorem portMask_getLsbD (f : Port → Bool) (p : Port) :
    (BitVec.ofBool (f 2) ++ BitVec.ofBool (f 1) ++ BitVec.ofBool (f 0)).getLsbD p.val = f p := by
  have hbits : ∀ a b c : Bool, (BitVec.ofBool c ++ BitVec.ofBool b ++ BitVec.ofBool a).getLsbD 0 = a ∧
      (BitVec.ofBool c ++ BitVec.ofBool b ++ BitVec.ofBool a).getLsbD 1 = b ∧
      (BitVec.ofBool c ++ BitVec.ofBool b ++ BitVec.ofBool a).getLsbD 2 = c := by decide
  obtain ⟨h0, h1, h2⟩ := hbits (f 0) (f 1) (f 2)
  match p with
  | 0 => exact h0
  | 1 => exact h1
  | 2 => exact h2

/-- The ports with a LIVE link (R55). -/
theorem State.livePorts_getLsbD (s : State) (p : Port) :
    s.livePorts.getLsbD p.val = true ↔ ∃ i, (s.link i).state = .live ∧ (s.link i).port = p := by
  have hbit : s.livePorts.getLsbD p.val = allLinks.any fun i => s.isLive i && (s.link i).port == p :=
    portMask_getLsbD (fun q => allLinks.any fun i => s.isLive i && (s.link i).port == q) p
  rw [hbit]
  simp [allLinks, List.any_eq_true]

/-- Settles O47: one equation for each lookup. -/
theorem tableLookupsFindWhatTheySay : Obligations.TableLookupsFindWhatTheySay := fun s =>
  ⟨s.findLink_eq_some, s.findLink_eq_none_iff, ⟨s.findRoute_eq_some, s.findRoute_eq_none⟩,
    ⟨s.takeable_eq_some, s.takeable_eq_none⟩, s.staleFlag_eq_false, s.livePorts_getLsbD⟩

/-! ### Selection -/

/-- The order of R107. -/
theorem State.candidateBefore_iff (s : State) (c d : Candidate) : s.candidateBefore c d = true ↔ s.ranksBefore c d := by
  simp only [State.candidateBefore, Bool.or_eq_true, Bool.and_eq_true, beq_iff_eq, decide_eq_true_eq, Fin.lt_def]
  exact Iff.rfl

/-- The order of R107 is transitive. -/
theorem State.ranksBefore_trans (s : State) (a b c : Candidate) (hab : s.ranksBefore a b) (hbc : s.ranksBefore b c) :
    s.ranksBefore a c := by
  unfold State.ranksBefore at *
  omega

/-- Of two candidates in the order of R107, a third comes after the first or before the second. -/
theorem State.ranksBefore_split (s : State) (a b c : Candidate) (h : s.ranksBefore a c) :
    s.ranksBefore a b ∨ s.ranksBefore b c := by
  unfold State.ranksBefore at *
  omega

/-- No candidate comes before itself. -/
theorem State.ranksBefore_irrefl (s : State) (c : Candidate) : ¬s.ranksBefore c c := by
  unfold State.ranksBefore
  omega

/-- The best of a list of candidates is the first of the best in the order of R107. -/
theorem State.best_eq (s : State) (cs : List Candidate) :
    s.best cs = firstBest (fun c d => s.candidateBefore c d = true) cs := by
  unfold State.best firstBest
  refine congrArg (fun f => cs.foldl f none) (funext fun b => funext fun c => ?_)
  cases b <;> rfl

/-- The best of a list of candidates (R107). -/
theorem State.best_spec {cs : List Candidate} {b : Candidate} (h : s.best cs = some b) :
    b ∈ cs ∧ ∀ c ∈ cs, ¬s.ranksBefore c b := by
  rw [State.best_eq] at h
  have := firstBest_best (better := fun c d => s.candidateBefore c d = true)
    (by simp only [State.candidateBefore_iff]; exact s.ranksBefore_trans)
    (by simp only [State.candidateBefore_iff]; exact s.ranksBefore_split)
    (by simp only [State.candidateBefore_iff]; exact s.ranksBefore_irrefl) h
  simpa only [State.candidateBefore_iff] using this

/-- Only an empty list has no best candidate. -/
theorem State.best_eq_none {cs : List Candidate} : s.best cs = none ↔ cs = [] := by
  rw [State.best_eq, firstBest_eq_none]

/-- A list with a candidate has a best one. -/
theorem State.exists_best {cs : List Candidate} {c : Candidate} (h : c ∈ cs) : ∃ b, s.best cs = some b := by
  rw [← Option.ne_none_iff_exists', ne_eq, State.best_eq_none]
  exact List.ne_nil_of_mem h

/-- The eligible candidates of an entry (R106). -/
theorem State.mem_eligibles_iff {e : RouteEntry} {c : Candidate} :
    c ∈ s.eligibles e ↔ c ∈ e.candidates ∧ s.eligible e.latest c = true := List.mem_filter

/-- The pin's choice (R107, step 1). -/
theorem State.pinChoice_eq_some {e : RouteEntry} {c : Choice} :
    s.pinChoice e = some c ↔ ∃ p, e.pin = some p ∧ s.findLink p.link = some c.link ∧
      (s.link c.link).state = .live ∧ c.total = min 65535 (p.cost + (s.link c.link).cost) ∧ c.total < 65535 := by
  unfold State.pinChoice
  cases e.pin with
  | none => simp
  | some p =>
    cases hf : s.findLink p.link with
    | none => simp [hf]
    | some i =>
      have htotal : s.totalOver i p.cost = min 65535 (p.cost + (s.link i).cost) := rfl
      simp only [Option.some.injEq, exists_eq_left', hf, htotal, Bool.and_eq_true, State.isLive_iff, decide_eq_true_eq,
        Config.unreachable, Option.ite_none_right_eq_some]
      constructor
      · rintro ⟨⟨hlive, hlt⟩, rfl⟩
        exact ⟨rfl, hlive, rfl, hlt⟩
      · rintro ⟨rfl, hlive, htot, hlt⟩
        exact ⟨⟨hlive, htot ▸ hlt⟩, congrArg (Choice.mk c.link) htot.symm⟩

/-- A candidate as a choice. -/
theorem State.choiceOf_eq (s : State) (c : Candidate) :
    s.choiceOf c = { link := c.link, total := min 65535 (c.stamp + (s.link c.link).cost) } := rfl

/-- The primary from the candidates, when none is eligible (R107). -/
theorem State.candidatePrimary_none {e : RouteEntry} (h : ∀ c, c ∉ s.eligibles e) : s.candidatePrimary e = none := by
  unfold State.candidatePrimary
  rw [State.best_eq_none.2 (List.eq_nil_iff_forall_not_mem.2 h)]

/-- The primary from the candidates, when the primary so far is not eligible (R107). -/
theorem State.candidatePrimary_new {e : RouteEntry} {b : Candidate} (hb : s.best (s.eligibles e) = some b)
    (h : ∀ c ∈ s.eligibles e, ∀ x, e.primary = some x → c.link ≠ x.link) : s.candidatePrimary e = some (s.choiceOf b) := by
  have hcur : (e.primary.bind fun pr => (s.eligibles e).find? fun c => c.link == pr.link) = none := by
    cases hp : e.primary with
    | none => rfl
    | some x =>
      refine List.find?_eq_none.2 fun c hc => ?_
      simpa using h c hc x hp
  unfold State.candidatePrimary
  simp only [hb, hcur]

/-- The primary from the candidates, when the primary so far is eligible: it stays within its margin (R107). -/
theorem State.candidatePrimary_current {e : RouteEntry} {b cur : Candidate} {x : Choice}
    (hb : s.best (s.eligibles e) = some b) (hx : e.primary = some x) (hcur : cur ∈ s.eligibles e) (hlink : cur.link = x.link)
    (huniq : ∀ c ∈ s.eligibles e, c.link = x.link → c = cur) :
    s.candidatePrimary e =
      if s.candidateTotal cur * s.settings.hysteresis / 16 < s.candidateTotal cur - s.candidateTotal b then some (s.choiceOf b)
      else some (s.choiceOf cur) := by
  have hfind : ((s.eligibles e).find? fun c => c.link == x.link) = some cur := by
    obtain ⟨c, hc⟩ := Option.isSome_iff_exists.1
      (List.find?_isSome.2 ⟨cur, hcur, beq_iff_eq.2 hlink⟩ : ((s.eligibles e).find? fun c => c.link == x.link).isSome = true)
    rw [hc, huniq c (List.mem_of_find?_eq_some hc) (by simpa using List.find?_some hc)]
  unfold State.candidatePrimary
  simp only [hb, hx, Option.bind_some, hfind]
  rfl

/-- The alternate (R107, step 3). -/
theorem State.selectAlternate_some_eq (s : State) (e : RouteEntry) (x : Choice) :
    s.selectAlternate e (some x) =
      (s.best ((s.eligibles e).filter fun c => (s.link c.link).port != (s.link x.link).port)).map s.choiceOf := rfl

/-- Settles O49: the pin by `pinChoice_eq_some`, the candidates by the three equations of `candidatePrimary`, and the best of a
list by `best_spec`. -/
theorem selectionIsR107 : Obligations.SelectionIsR107 := by
  intro s e total ok pinned best t
  have hok (c : Candidate) : c ∈ s.eligibles e ↔ ok c := State.mem_eligibles_iff
  have hbest {b : Candidate} (h : s.best (s.eligibles e) = some b) : best b ok := by
    obtain ⟨hmem, hall⟩ := State.best_spec h
    exact ⟨(hok b).1 hmem, fun c hc => hall c ((hok c).2 hc)⟩
  have hother {x : Choice} (c : Candidate) :
      c ∈ ((s.eligibles e).filter fun c => (s.link c.link).port != (s.link x.link).port) ↔
        ok c ∧ (s.link c.link).port ≠ (s.link x.link).port := by
    rw [List.mem_filter, hok, bne_iff_ne]
  refine ⟨rfl, ?state, fun c hc => ?pin, fun hno => ⟨fun hnone => ?nothing, fun hnew hsome => ?first, ?current⟩, fun hp => ?noAlternate,
    fun x hx => ⟨fun hnone => ?noOther, fun hsome => ?other⟩⟩
  case state =>
    show (if (s.selectPrimary e).isSome = true then RouteState.active else .orphan) =
      if s.selectPrimary e = none then .orphan else .active
    cases s.selectPrimary e <;> rfl
  case pin =>
    show s.selectPrimary e = some c
    rw [State.selectPrimary, State.pinChoice_eq_some.2 hc]
  all_goals try
    have hprimary : s.selectPrimary e = s.candidatePrimary e := by
      have hpin : s.pinChoice e = none :=
        Option.eq_none_iff_forall_ne_some.2 fun c hc => hno c (State.pinChoice_eq_some.1 hc)
      rw [State.selectPrimary, hpin]
  case nothing =>
    exact hprimary.trans (State.candidatePrimary_none fun c hc => hnone c ((hok c).1 hc))
  case first =>
    obtain ⟨c, hc⟩ := hsome
    obtain ⟨b, hb⟩ := s.exists_best ((hok c).2 hc)
    exact ⟨b, hbest hb, hprimary.trans (State.candidatePrimary_new hb fun c hc => hnew c ((hok c).1 hc))⟩
  case current =>
    intro x cur b hx hcur hlink huniq _ htotal
    obtain ⟨b', hb'⟩ := s.exists_best ((hok cur).2 hcur)
    have hb'total : s.candidateTotal b' = total b := htotal b' (hbest hb')
    have heq := hprimary.trans (State.candidatePrimary_current hb' hx ((hok cur).2 hcur) hlink
      fun c hc => huniq c ((hok c).1 hc))
    rw [hb'total] at heq
    exact ⟨fun hbeats => ⟨b', hbest hb', heq.trans (if_pos hbeats)⟩, fun hstays => heq.trans (if_neg hstays)⟩
  case noAlternate =>
    show s.selectAlternate e (s.selectPrimary e) = none
    rw [show s.selectPrimary e = none from hp]
    rfl
  case noOther =>
    refine (congrArg (s.selectAlternate e) hx).trans ?_
    rw [State.selectAlternate_some_eq, State.best_eq_none.2 (List.eq_nil_iff_forall_not_mem.2 fun c hc => hnone c ((hother c).1 hc))]
    rfl
  case other =>
    obtain ⟨c, hc⟩ := hsome
    obtain ⟨b, hb⟩ := s.exists_best ((hother c).2 hc)
    obtain ⟨hmem, hall⟩ := State.best_spec hb
    refine ⟨b, ⟨(hother b).1 hmem, fun c hc => hall c ((hother c).2 hc)⟩, (congrArg (s.selectAlternate e) hx).trans ?_⟩
    rw [State.selectAlternate_some_eq, hb]
    rfl

end Sys2Proof.Machine
end

section
/-! PROOFS. Outcome jobs and the sweep (O41, O42, O43). -/

namespace Sys2Proof.Machine

variable {s t : State}

/-! ### Outcome jobs -/

/-- The outcome sample (R88). -/
theorem outcomeSample_eq (acked : Bool) (attempts : Nat) :
    outcomeSample acked attempts = if acked = true then (4096 + max attempts 1 / 2) / max attempts 1 else 0 := by
  unfold outcomeSample
  rw [Nat.max_comm]

/-- An outcome with no heard link is discarded (R71). -/
theorem State.applyOutcome_discards {o : OutcomeEntry}
    (h : ∀ i, s.findLink o.link = some i → ¬heardState (s.link i).state) : s.applyOutcome o = s := by
  unfold State.applyOutcome
  cases hf : s.findLink o.link with
  | none => rfl
  | some i => exact if_neg fun he => h i hf ((LinkState.estimated_iff _).1 he)

/-- An outcome of a heard link (R71). -/
theorem State.applyOutcome_applies {o : OutcomeEntry} {i : LinkIx} (hf : s.findLink o.link = some i)
    (h : heardState (s.link i).state) : s.applyOutcome o = s.setLink i ((s.link i).withOutcome o) := by
  unfold State.applyOutcome
  rw [hf]
  exact if_pos ((LinkState.estimated_iff _).2 h)

/-- An outcome job with nothing to do (R70). -/
theorem State.outcomeJob_idle (h : s.metric.sweep ≠ none ∨ s.metric.request = true ∨ s.outcomes = []) : s.outcomeJob = s := by
  unfold State.outcomeJob
  by_cases hc : (s.metric.sweep.isSome || s.metric.request || s.inReset) = true
  · rw [if_pos hc]
  · have hempty : s.outcomes = [] := by
      simp only [Bool.or_eq_true, not_or, Option.isSome_iff_ne_none] at hc
      obtain ⟨⟨hsweep, hrequest⟩, -⟩ := hc
      exact (h.resolve_left hsweep).resolve_left hrequest
    rw [if_neg hc, hempty]

/-- An outcome job takes the head of the queue (R70, R71). -/
theorem State.outcomeJob_takes {o : OutcomeEntry} {rest : List OutcomeEntry} (hr : s.inReset = false)
    (hs : s.metric.sweep = none) (hq : s.metric.request = false) (ho : s.outcomes = o :: rest) :
    s.outcomeJob = State.applyOutcome { s with outcomes := rest } o := by
  unfold State.outcomeJob
  rw [hr, hs, hq, ho]
  rfl

/-- Settles O41: the two outcomes of a job by `applyOutcome`'s equations. -/
theorem outcomeJobResult : Obligations.OutcomeJobResult := by
  refine ⟨fun s h => congrArg Host.Outcome.next (State.outcomeJob_idle h), fun o rest s hr hs hq ho =>
    ⟨fun h => ?discards, fun i hf h => ?applies⟩⟩
  case discards =>
    exact congrArg Host.Outcome.next ((State.outcomeJob_takes hr hs hq ho).trans
      (State.applyOutcome_discards (s := { s with outcomes := rest }) h))
  case applies =>
    refine congrArg Host.Outcome.next (((State.outcomeJob_takes hr hs hq ho).trans
      (State.applyOutcome_applies (s := { s with outcomes := rest }) hf h)).trans ?_)
    rw [Link.withOutcome, outcomeSample_eq]
    rfl

/-! ### The walker's work from a sweep -/

/-- A walk begins if the engine runs and it can (R122). -/
theorem State.beginWalk_walker (s : State) :
    s.beginWalk = { s with walker := if s.engineRuns = true then s.walker.begun else s.walker } := by
  by_cases h : s.engineRuns = true
  · rw [if_pos h, State.beginWalk_running (State.engineRuns_iff.1 h)]
  · rw [if_neg h, State.beginWalk_transparent (State.engineRuns_false.1 (Bool.not_eq_true _ |>.mp h))]

/-- The walker after a refresh request (R121, R122). -/
def Walker.refreshed (w : Walker) (runs : Bool) : Walker :=
  if runs = true then Walker.begun { w with refresh := true } else { w with refresh := true }

/-- The walker after a link is lost (R75, R121, R122). -/
def Walker.afterLoss (w : Walker) (runs : Bool) (i : LinkIx) : Walker :=
  if runs = true then Walker.begun { w with evict := addEvict w.evict i } else { w with evict := addEvict w.evict i }

/-- A refresh request in a walk waits (R122). -/
theorem Walker.refreshed_walking {w : Walker} (h : w.walk ≠ none) (runs : Bool) : w.refreshed runs = { w with refresh := true } := by
  unfold Walker.refreshed
  rw [Walker.begun_walking (w := { w with refresh := true }) h, ite_self]

/-- A refresh request without a walk begins one (R122). -/
theorem Walker.refreshed_idle {w : Walker} (h : w.walk = none) :
    w.refreshed true =
      { refresh := false, flush := false, evict := []
        walk := some { refresh := true, flush := w.flush, evict := w.evict, next := 0 } } :=
  Walker.begun_begins (w := { w with refresh := true }) h ((Walker.hasWork_iff _).2 (.inl rfl))

/-- A loss in a walk waits (R122). -/
theorem Walker.afterLoss_walking {w : Walker} (h : w.walk ≠ none) (runs : Bool) (i : LinkIx) :
    w.afterLoss runs i = { w with evict := addEvict w.evict i } := by
  unfold Walker.afterLoss
  rw [Walker.begun_walking (w := { w with evict := addEvict w.evict i }) h, ite_self]

/-- A loss without a walk begins one (R122). -/
theorem Walker.afterLoss_idle {w : Walker} (h : w.walk = none) (i : LinkIx) :
    w.afterLoss true i =
      { refresh := false, flush := false, evict := []
        walk := some { refresh := w.refresh, flush := w.flush, evict := addEvict w.evict i, next := 0 } } := by
  have hmem : i ∈ addEvict w.evict i := (mem_addEvict _ _ _).2 (.inr rfl)
  exact Walker.begun_begins (w := { w with evict := addEvict w.evict i }) h
    ((Walker.hasWork_iff _).2 (.inr (.inr (List.ne_nil_of_mem hmem))))

/-! ### A sweep's visit -/

/-- A visit of an entry that is not heard (R73). -/
theorem State.visitLink_skips {i : LinkIx} (h : ¬heardState (s.link i).state) : s.visitLink i = s := by
  unfold State.visitLink
  exact if_neg fun he => h ((LinkState.estimated_iff _).1 he)

/-- A visit of a heard entry (R73, R75). -/
theorem State.visitLink_visits {i : LinkIx} (h : heardState (s.link i).state) :
    s.visitLink i =
      { s with
        links := s.links.set i.val ((s.link i).visited s.settings)
        events := (s.changeLink i ((s.link i).visited s.settings)).events
        walker := if ((s.link i).visited s.settings).state = .lost then s.walker.afterLoss s.engineRuns i else s.walker } := by
  unfold State.visitLink
  dsimp only
  rw [if_pos ((LinkState.estimated_iff _).2 h)]
  by_cases hlost : ((s.link i).visited s.settings).state = .lost
  · rw [if_pos hlost, if_pos hlost, State.beginWalk_walker, State.changeLink_eq]
    rfl
  · rw [if_neg hlost, if_neg hlost, State.changeLink_eq]

/-- The sweep's next position (R86). -/
theorem State.advanceSweep_moves {i : LinkIx} (h : i.val < 31) :
    s.advanceSweep i = { s with metric := { s.metric with sweep := some (i + 1) } } := by
  have hlt : i.val + 1 < 32 := by omega
  have hnext : (⟨i.val + 1, hlt⟩ : LinkIx) = i + 1 := by
    apply Fin.ext
    simp only [Fin.val_add]
    omega
  unfold State.advanceSweep
  rw [dif_pos hlt, hnext]

/-- The sweep's end (R75, R86). -/
theorem State.advanceSweep_ends {i : LinkIx} (h : ¬i.val < 31) :
    s.advanceSweep i =
      { s with metric := { s.metric with sweep := none }, walker := s.walker.refreshed s.engineRuns } := by
  unfold State.advanceSweep
  rw [dif_neg (by omega), State.requestRefresh, State.beginWalk_walker]
  rfl

/-- A sweep visit (R73, R86). -/
theorem State.sweepVisit_at {i : LinkIx} (hr : s.inReset = false) (hs : s.metric.sweep = some i) :
    s.sweepVisit = (s.visitLink i).advanceSweep i := by
  unfold State.sweepVisit
  rw [hr, hs]
  rfl

/-- A link's change raises LINK-UP and LINK-DOWN alone (R64). -/
theorem State.changeLink_onlyRaises (s : State) (i : LinkIx) (l : Link) :
    s.onlyRaises (s.changeLink i l) [.linkUp, .linkDown] :=
  (State.onlyRaises_raiseIf (s.setLink i l) _ _).trans (State.onlyRaises_raiseIf _ _ _)

/-- LINK-UP after a link's change (R64). -/
theorem State.changeLink_linkUp (s : State) (i : LinkIx) (l : Link) :
    (s.changeLink i l).pendingOf .linkUp = (s.pendingOf .linkUp || ((s.link i).state != .live && l.state == .live)) := by
  unfold State.changeLink
  rw [State.pendingOf_raiseIf, State.pendingOf_raiseIf]
  simp only [reduceCtorEq, decide_false, Bool.and_false, Bool.or_false, decide_true, Bool.and_true]
  rfl

/-- LINK-DOWN after a link's change (R64). -/
theorem State.changeLink_linkDown (s : State) (i : LinkIx) (l : Link) :
    (s.changeLink i l).pendingOf .linkDown = (s.pendingOf .linkDown || ((s.link i).state == .live && l.state != .live)) := by
  unfold State.changeLink
  rw [State.pendingOf_raiseIf, State.pendingOf_raiseIf]
  simp only [reduceCtorEq, decide_false, Bool.and_false, Bool.or_false, decide_true, Bool.and_true]
  rfl

/-- The walker after a visit of a heard entry (R75, R121, R122). -/
def State.sweptWalker (s : State) (i : LinkIx) : Walker :=
  if ((s.link i).visited s.settings).state = .lost then s.walker.afterLoss s.engineRuns i else s.walker

/-- A sweep visit of a heard entry (R73, R75, R86). -/
theorem State.sweepVisit_heard {i : LinkIx} (hr : s.inReset = false) (hs : s.metric.sweep = some i)
    (h : heardState (s.link i).state) :
    s.sweepVisit =
      { s with
        links := s.links.set i.val ((s.link i).visited s.settings)
        events := (s.changeLink i ((s.link i).visited s.settings)).events
        metric := { s.metric with sweep := if i.val < 31 then some (i + 1) else none }
        walker := if i.val < 31 then s.sweptWalker i else (s.sweptWalker i).refreshed s.engineRuns } := by
  rw [State.sweepVisit_at hr hs, State.visitLink_visits h]
  by_cases hi : i.val < 31
  · rw [State.advanceSweep_moves hi, if_pos hi, if_pos hi]
    rfl
  · rw [State.advanceSweep_ends hi, if_neg hi, if_neg hi]
    rfl

/-- A sweep visit that skips its entry (R73, R86). -/
theorem State.sweepVisit_skips {i : LinkIx} (hr : s.inReset = false) (hs : s.metric.sweep = some i)
    (h : ¬heardState (s.link i).state) :
    s.sweepVisit =
      { s with
        metric := { s.metric with sweep := if i.val < 31 then some (i + 1) else none }
        walker := if i.val < 31 then s.walker else s.walker.refreshed s.engineRuns } := by
  rw [State.sweepVisit_at hr hs, State.visitLink_skips h]
  by_cases hi : i.val < 31
  · rw [State.advanceSweep_moves hi, if_pos hi, if_pos hi]
  · rw [State.advanceSweep_ends hi, if_neg hi, if_neg hi]

/-- The entry of a sweep visit (R73). -/
theorem State.sweepVisit_link {i : LinkIx} (hr : s.inReset = false) (hs : s.metric.sweep = some i)
    (h : heardState (s.link i).state) : s.sweepVisit.link i = (s.link i).visited s.settings := by
  rw [State.sweepVisit_heard hr hs h]
  exact State.link_setLink_same s i _

/-- The walker after the sweep's end, when the last visit loses its link in a walk (R75, R122). -/
theorem Walker.refreshed_afterLoss_walking {w : Walker} (h : w.walk ≠ none) (runs : Bool) (i : LinkIx) :
    (w.afterLoss runs i).refreshed runs = { w with refresh := true, evict := addEvict w.evict i } := by
  rw [Walker.afterLoss_walking h, Walker.refreshed_walking (w := { w with evict := addEvict w.evict i }) h]

/-- The walker after the sweep's end, when the last visit loses its link with no walk (R75, R122). -/
theorem Walker.refreshed_afterLoss_idle {w : Walker} (h : w.walk = none) (i : LinkIx) :
    (w.afterLoss true i).refreshed true =
      { refresh := true, flush := false, evict := []
        walk := some { refresh := w.refresh, flush := w.flush, evict := addEvict w.evict i, next := 0 } } := by
  rw [Walker.afterLoss_idle h]
  rfl

/-- Settles O42: the sweep's beginning by unfolding, its end by `sweepVisit_heard` and `sweepVisit_skips`. -/
theorem sweepBeginsAndEnds : Obligations.SweepBeginsAndEnds := by
  refine ⟨fun s hr => ⟨fun hq hs => ?begins, fun hno => ?stays⟩, fun s hr hs he => ⟨s.sweepVisit, rfl, ?ends⟩⟩
  case begins =>
    refine congrArg Host.Outcome.next ?_
    rw [State.sweepBegin, hq, hs, hr]
    rfl
  case stays =>
    refine congrArg Host.Outcome.next (if_neg fun hc => ?_)
    simp only [Bool.and_eq_true, Option.isNone_iff_eq_none] at hc
    obtain ⟨⟨hq, hs⟩, -⟩ := hc
    rcases hno with hno | hno
    · rw [hq] at hno
      exact nomatch hno
    · exact hno hs
  case ends =>
    have hruns : s.engineRuns = true := State.engineRuns_iff.2 he
    have hlast : ¬(31 : LinkIx).val < 31 := by decide
    by_cases hheard : heardState (s.link 31).state
    · have hwalker : s.sweepVisit.walker = (s.sweptWalker 31).refreshed true := by
        have h := congrArg State.walker (State.sweepVisit_heard hr hs hheard)
        dsimp only at h
        rw [if_neg hlast, hruns] at h
        exact h
      rw [State.sweepVisit_link hr hs hheard, hwalker]
      refine ⟨?metric, ?routes, ?counters, fun hno => absurd hheard hno, fun hno hw => ?keptWalking, fun hno hw => ?keptIdle,
        fun ⟨_, hlost⟩ hw => ?lostWalking, fun ⟨_, hlost⟩ hw => ?lostIdle⟩
      case metric => rw [State.sweepVisit_heard hr hs hheard, if_neg hlast]
      case routes => rw [State.sweepVisit_heard hr hs hheard]
      case counters => rw [State.sweepVisit_heard hr hs hheard]
      case keptWalking => rw [State.sweptWalker, if_neg fun hlost => hno ⟨hheard, hlost⟩, Walker.refreshed_walking hw]
      case keptIdle => rw [State.sweptWalker, if_neg fun hlost => hno ⟨hheard, hlost⟩, Walker.refreshed_idle hw]
      case lostWalking =>
        rw [State.sweptWalker, if_pos hlost, hruns, Walker.refreshed_afterLoss_walking hw]
        exact ⟨rfl, rfl, rfl, mem_addEvict _ _⟩
      case lostIdle =>
        rw [State.sweptWalker, if_pos hlost, hruns, Walker.refreshed_afterLoss_idle hw]
        exact ⟨rfl, rfl, rfl, _, rfl, rfl, rfl, rfl, mem_addEvict _ _⟩
    · rw [State.sweepVisit_skips hr hs hheard, if_neg hlast, if_neg hlast, hruns]
      exact ⟨rfl, rfl, rfl, fun _ => ⟨rfl, rfl⟩, fun _ hw => Walker.refreshed_walking hw true, fun _ hw => Walker.refreshed_idle hw,
        fun ⟨h, _⟩ => absurd h hheard, fun ⟨h, _⟩ => absurd h hheard⟩

/-! ### The arithmetic of a visit -/

/-- The rate table (R90). -/
theorem rateOf_eq (rate : Fin 8) : rateOf rate = rateNumbers[rate.val]! := by revert rate; decide

/-- A quotient rounded up (R85). -/
theorem ceilDiv_eq (n : Nat) {d : Nat} (h : d ≠ 0) : ceilDiv n d = (n + d - 1) / d := by
  have hdiv := Nat.div_add_mod n d
  have hmod := Nat.mod_lt n (Nat.pos_of_ne_zero h)
  unfold ceilDiv
  split
  next hzero =>
    have hsum : n + d - 1 = d - 1 + d * (n / d) := by omega
    rw [hsum, Nat.add_mul_div_left _ _ (Nat.pos_of_ne_zero h), Nat.div_eq_of_lt (show d - 1 < d by omega)]
    omega
  next hrest =>
    have hsum : n + d - 1 = (n % d - 1) + d * (n / d + 1) := by
      rw [Nat.mul_add, Nat.mul_one]
      omega
    rw [hsum, Nat.add_mul_div_left _ _ (Nat.pos_of_ne_zero h), Nat.div_eq_of_lt (show n % d - 1 < d by omega)]
    omega

/-- The link cost (R91, R92). -/
theorem linkCost_eq (p : Nat) (rate : Fin 8) (penalty : Nat) : linkCost p rate penalty = costNumber p rate penalty := by
  unfold linkCost costNumber
  rw [rateOf_eq]
  dsimp only
  by_cases h : rateNumbers[rate.val]! * p / 256 = 0
  · rw [if_pos h, if_pos h]
  · rw [if_neg h, if_neg h, ceilDiv_eq _ h]

/-- The receive quality after a visit (R73, R87). -/
def Link.sweptQuality (l : Link) : Nat := toward l.qRx (if l.heard = true then 4096 else 0)

/-- The combined delivery of a visit (R89). -/
def Link.sweptDelivery (l : Link) : Nat :=
  if 4 ≤ l.txSamples then l.qTx else l.sweptQuality * l.sweptQuality / 4096

/-- A visit's samples, receive estimate and cost (R73). -/
theorem Link.sampled_eq (l : Link) (penalty : Nat) :
    l.sampled penalty =
      { l with
        heard := false, silent := if l.heard = true then 0 else min 15 (l.silent + 1), qRx := l.sweptQuality
        cost := costNumber l.sweptDelivery l.rate penalty } :=
  congrArg (fun c => Link.mk l.state l.node l.port l.sweptQuality l.qTx l.txSamples false
    (if l.heard = true then 0 else min 15 (l.silent + 1)) l.probation l.rate l.signal c l.helloSeq)
    (linkCost_eq l.sweptDelivery l.rate penalty)

/-- A visit's combined delivery (R89). -/
theorem Link.sampled_delivery (l : Link) (penalty : Nat) : (l.sampled penalty).delivery = l.sweptDelivery := rfl

/-- What a visit leaves in its entry (R73, R74). -/
theorem Link.visited_eq (l : Link) (cfg : Settings) :
    l.visited cfg =
      { l with
        heard := false, silent := if l.heard = true then 0 else min 15 (l.silent + 1), qRx := l.sweptQuality
        cost := costNumber l.sweptDelivery l.rate cfg.hopPenalty
        probation := (l.visited cfg).probation, state := (l.visited cfg).state } := by
  have h := Link.decided_eq (l.sampled cfg.hopPenalty) cfg
  rw [Link.sampled_eq] at h
  unfold Link.visited
  rw [Link.sampled_eq]
  exact h

/-- Settles O43: the entry by `visited_eq` and the cases of `decided`, the events by `changeLink`, the walker by `afterLoss`. -/
theorem sweepVisitResult : Obligations.SweepVisitResult := by
  intro i s hr hs next
  refine ⟨fun hno hi => ?skips, fun hheard => ⟨s.sweepVisit, rfl, ?_⟩⟩
  case skips =>
    refine congrArg Host.Outcome.next ?_
    have hwalker : (if i.val < 31 then s.walker else s.walker.refreshed s.engineRuns) = s.walker := if_pos hi
    rw [State.sweepVisit_skips hr hs hno, hwalker]
  have hentry := State.sweepVisit_link hr hs hheard
  have heq := State.sweepVisit_heard hr hs hheard
  have hwalker := congrArg State.walker heq
  have hevents : s.sweepVisit.events = (s.changeLink i ((s.link i).visited s.settings)).events := by
    rw [heq]
  have hpending (e : EventSource) : s.sweepVisit.pendingOf e = (s.changeLink i ((s.link i).visited s.settings)).pendingOf e := by
    rw [State.pendingOf, hevents]
    rfl
  rw [hentry, hpending, hpending, State.changeLink_linkUp, State.changeLink_linkDown]
  refine ⟨fun j hj => ?others, ?metric, ?routes, ?counters, ?raises, (s.link i).visited_eq s.settings, fun hsilent => ?silent,
    fun hsilent => ⟨fun hst => ?probation, fun hst => ?live, fun hst => ?weak⟩, rfl, rfl, fun hlost he hw => ?lostIdle,
    fun hlost hw => ?lostWalking, fun hkept hi => ?kept⟩
  case others =>
    rw [heq]
    exact State.link_setLink_other s _ hj
  case metric => rw [heq]
  case routes => rw [heq]
  case counters => rw [heq]
  case raises =>
    obtain ⟨hthreshold, hall⟩ := s.changeLink_onlyRaises i ((s.link i).visited s.settings)
    rw [← hevents] at hthreshold
    refine ⟨hthreshold, fun e => ?_⟩
    rw [hpending, hevents]
    exact hall e
  case silent =>
    have h := Link.decided_silent (l := (s.link i).sampled s.settings.hopPenalty) (cfg := s.settings) hsilent
    rw [Link.visited, h]
    exact ⟨rfl, rfl⟩
  case probation =>
    have h := Link.decided_probation (l := (s.link i).sampled s.settings.hopPenalty) (cfg := s.settings) hsilent hst
    rw [Link.visited, h]
    exact ⟨rfl, rfl⟩
  case live =>
    have h := Link.decided_live (l := (s.link i).sampled s.settings.hopPenalty) (cfg := s.settings) hsilent hst
    rw [Link.visited, h]
    exact ⟨rfl, rfl⟩
  case weak =>
    have h := Link.decided_weak (l := (s.link i).sampled s.settings.hopPenalty) (cfg := s.settings) hsilent hst
    rw [Link.visited, h]
    exact ⟨rfl, rfl⟩
  case lostIdle =>
    have hswept : s.sweptWalker i = s.walker.afterLoss true i := by
      rw [State.sweptWalker, if_pos hlost, State.engineRuns_iff.2 he]
    dsimp only at hwalker
    rw [hswept, State.engineRuns_iff.2 he, Walker.refreshed_afterLoss_idle hw, Walker.afterLoss_idle hw] at hwalker
    rw [hwalker]
    split
    · exact ⟨rfl, _, rfl, rfl, mem_addEvict _ _⟩
    · exact ⟨rfl, _, rfl, rfl, mem_addEvict _ _⟩
  case lostWalking =>
    have hswept : s.sweptWalker i = s.walker.afterLoss s.engineRuns i := if_pos hlost
    dsimp only at hwalker
    rw [hswept, Walker.refreshed_afterLoss_walking hw, Walker.afterLoss_walking hw] at hwalker
    rw [hwalker]
    split
    · exact ⟨rfl, mem_addEvict _ _⟩
    · exact ⟨rfl, mem_addEvict _ _⟩
  case kept =>
    rw [hwalker]
    exact (if_pos hi).trans (if_neg hkept)

end Sys2Proof.Machine
end

section
/-! PROOFS. The sample expiry and the purge window's expiry (O44, O45). -/

namespace Sys2Proof.Machine

variable {s t : State}

/-! ### Sample expiry -/

/-- The state in which a sample expiry's owners act: the time is reached and the timer reloaded (R155, R157). -/
def State.timerReloaded (s : State) (t : Nat) : State :=
  { s with
    now := max s.now t
    engine := { s.engine with nextExpiry := some (t + s.settings.sampleInterval) } }

/-- A sample expiry's sweep request and flood aging, after which the wanted list and the engine have their turn. -/
def State.sampleTaken (s : State) (t : Nat) : State :=
  let u := (s.timerReloaded t).requestSweep
  { u with verdicts := { u.verdicts with flood := ageFlood u.settings.floodLifetime u.verdicts.flood } }

/-- A sample expiry, owner by owner (R157). -/
theorem State.sampleExpiry_at {n : Nat} (hr : s.inReset = false) (hn : s.engine.nextExpiry = some n) :
    s.sampleExpiry = (s.sampleTaken n).ageWanted.settleSample := by
  unfold State.sampleExpiry
  rw [hr, hn]
  rfl

/-- What a sample expiry's first two owners leave unchanged, and what they make of the flood cache. -/
theorem State.sampleTaken_eq (s : State) (n : Nat) :
    s.sampleTaken n =
      { s with
        now := max s.now n
        engine := { s.engine with nextExpiry := some (n + s.settings.sampleInterval) }
        verdicts := { s.verdicts with flood := ageFlood s.settings.floodLifetime s.verdicts.flood }
        metric := (s.timerReloaded n).requestSweep.metric
        counters := (s.timerReloaded n).requestSweep.counters
        events := (s.timerReloaded n).requestSweep.events } := by
  unfold State.sampleTaken
  rw [State.requestSweep_eq]
  rfl

/-- The wanted list's aging keeps what is pending. -/
theorem State.pendingOf_ageWanted {e : EventSource} (h : s.pendingOf e = true) : s.ageWanted.pendingOf e = true := by
  rw [State.ageWanted, State.pendingOf_raiseIf]
  exact Bool.or_eq_true _ _ |>.mpr (.inl h)

/-- The settle sample keeps what is pending. -/
theorem State.pendingOf_settleSample {e : EventSource} (h : s.pendingOf e = true) : s.settleSample.pendingOf e = true := by
  unfold State.settleSample
  split
  · dsimp only
    split
    · rw [State.pendingOf_raise]
      exact Bool.or_eq_true _ _ |>.mpr (.inl h)
    · exact h
  · exact h

/-- A sweep request with no sweep running or requested (R72). -/
theorem State.requestSweep_requests (h : ¬(s.metric.sweep ≠ none ∨ s.metric.request = true)) :
    s.requestSweep = { s with metric := { s.metric with request := true } } := by
  refine if_neg fun hc => h ?_
  rwa [Bool.or_eq_true, Option.isSome_iff_ne_none] at hc

/-- A sweep request on top of another (R72). -/
theorem State.requestSweep_overruns (h : s.metric.sweep ≠ none ∨ s.metric.request = true) :
    s.requestSweep = (s.count .sweepOverruns).raise .sweepOverrun := by
  refine if_pos ?_
  rwa [Bool.or_eq_true, Option.isSome_iff_ne_none]

/-- An entry's age at a sample expiry, in the words of R118. -/
theorem WantedEntry.aged_eq (limit : Nat) :
    WantedEntry.aged limit = fun w =>
      if w.state = .waiting then
        { w with age := w.age + 1, state := if limit ≤ w.age + 1 then .expired else .waiting }
      else w := rfl

/-- A waiting entry reaches the limit (R118). -/
theorem State.ageWanted_expires
    (h : ∃ w ∈ s.wanted, w.state = .waiting ∧ s.settings.waitLimit ≤ w.age + 1) : s.ageWanted.pendingOf .waitExpired = true := by
  have hany : s.wanted.any (WantedEntry.expiring s.settings.waitLimit) = true := by
    obtain ⟨w, hw, hst, hage⟩ := h
    refine List.any_eq_true.2 ⟨w, hw, ?_⟩
    simp [WantedEntry.expiring, hst, hage]
  rw [State.ageWanted, State.pendingOf_raiseIf, hany]
  simp

/-- Settling outside LEARNING (R152). -/
theorem State.settleSample_rests (h : s.engine.state ≠ .learning) : s.settleSample = s := if_neg h

/-- Settling that reaches the setting (R152). -/
theorem State.settleSample_ends (h : s.engine.state = .learning) (hn : s.settings.settle ≤ s.engine.settle + 1) :
    s.settleSample =
      State.raise { s with engine := { s.engine with settle := s.engine.settle + 1, state := .forwarding } } .stateChange := by
  unfold State.settleSample
  rw [if_pos h, if_pos hn]

/-- Settling that goes on (R152). -/
theorem State.settleSample_goesOn (h : s.engine.state = .learning) (hn : s.engine.settle + 1 < s.settings.settle) :
    s.settleSample = { s with engine := { s.engine with settle := s.engine.settle + 1 } } := by
  unfold State.settleSample
  rw [if_pos h, if_neg (Nat.not_le.2 hn)]

/-- What leaves the flood cache at a sample expiry leaves from the head (R58). -/
theorem ageFlood_split (lifetime : Nat) (fs : List FloodEntry) :
    ∃ gone, fs.map (fun f => { f with age := f.age + 1 }) = gone ++ ageFlood lifetime fs ∧
      (∀ f ∈ gone, lifetime ≤ f.age) ∧ ∀ f ∈ (ageFlood lifetime fs).head?, f.age < lifetime := by
  refine ⟨_, (List.takeWhile_append_dropWhile (p := fun f : FloodEntry => decide (lifetime ≤ f.age))).symm, fun f hf => ?_,
    fun f hf => ?_⟩
  · have hgone := List.all_eq_true.1 (List.all_takeWhile (p := fun f : FloodEntry => decide (lifetime ≤ f.age))
      (l := fs.map fun f => { f with age := f.age + 1 }))
    exact of_decide_eq_true (hgone f hf)
  · have hnot := List.head?_dropWhile_not (fun f : FloodEntry => decide (lifetime ≤ f.age))
      (fs.map fun f => { f with age := f.age + 1 })
    rw [show ((fs.map fun f => { f with age := f.age + 1 }).dropWhile fun f => decide (lifetime ≤ f.age)).head? = some f from hf]
      at hnot
    simpa using hnot

/-- What the last two owners leave of the state that the first two made (R118, R152). -/
theorem State.aged_settled_kept (s : State) :
    let t := s.ageWanted.settleSample
    t.now = s.now ∧ t.metric = s.metric ∧ t.counters = s.counters ∧ t.verdicts = s.verdicts ∧
      t.wanted = s.wanted.map (WantedEntry.aged s.settings.waitLimit) ∧ t.links = s.links ∧ t.routes = s.routes ∧
      t.slots = s.slots ∧ t.mem = s.mem ∧ t.bus = s.bus ∧ t.engine.nextExpiry = s.engine.nextExpiry := by
  intro t
  have hengine : t.engine.nextExpiry = s.ageWanted.engine.nextExpiry := by
    show s.ageWanted.settleSample.engine.nextExpiry = _
    unfold State.settleSample
    dsimp only
    split
    · split <;> rfl
    · rfl
  have ht : t = _ := s.ageWanted.settleSample_eq
  rw [hengine, ht, State.ageWanted_eq]
  exact ⟨rfl, rfl, rfl, rfl, rfl, rfl, rfl, rfl, rfl, rfl, rfl⟩

/-- The engine after the last two owners, outside LEARNING (R152). -/
theorem State.aged_settled_rests (h : s.engine.state ≠ .learning) : s.ageWanted.settleSample.engine = s.engine := by
  have he : s.ageWanted.engine = s.engine := by rw [State.ageWanted_eq]
  rw [State.settleSample_rests (he ▸ h), he]

/-- The engine after the last two owners, when the settling ends (R152). -/
theorem State.aged_settled_ends (h : s.engine.state = .learning) (hn : s.settings.settle ≤ s.engine.settle + 1) :
    s.ageWanted.settleSample.engine = { s.engine with settle := s.engine.settle + 1, state := .forwarding } ∧
      s.ageWanted.settleSample.pendingOf .stateChange = true := by
  have he : s.ageWanted.engine = s.engine := by rw [State.ageWanted_eq]
  have hs : s.ageWanted.settings = s.settings := by rw [State.ageWanted_eq]
  rw [State.settleSample_ends (s := s.ageWanted) (by rw [he, h]) (by rw [he, hs]; exact hn)]
  exact ⟨by rw [← he]; rfl, State.pendingOf_raise_same _ _⟩

/-- The engine after the last two owners, when the settling goes on (R152). -/
theorem State.aged_settled_goesOn (h : s.engine.state = .learning) (hn : s.engine.settle + 1 < s.settings.settle) :
    s.ageWanted.settleSample.engine = { s.engine with settle := s.engine.settle + 1 } := by
  have he : s.ageWanted.engine = s.engine := by rw [State.ageWanted_eq]
  have hs : s.ageWanted.settings = s.settings := by rw [State.ageWanted_eq]
  rw [State.settleSample_goesOn (s := s.ageWanted) (by rw [he, h]) (by rw [he, hs]; exact hn), he]

/-- Settles O44: each owner of the expiry by its own lemmas. -/
theorem sampleExpiryResult : Obligations.SampleExpiryResult := by
  intro n s hr hn overrun
  have ht : exec .sampleExpiry s = .next (s.sampleTaken n).ageWanted.settleSample :=
    congrArg Host.Outcome.next (State.sampleExpiry_at hr hn)
  obtain ⟨hnow, hmetric, hcounters, hverdicts, hwanted, hlinks, hroutes, hslots, hmem, hbus, hexpiry⟩ :=
    (s.sampleTaken n).aged_settled_kept
  have hu := s.sampleTaken_eq n
  have hengine : (s.sampleTaken n).engine = { s.engine with nextExpiry := some (n + s.settings.sampleInterval) } := by rw [hu]
  have hsettings : (s.sampleTaken n).settings = s.settings := by rw [hu]
  refine ⟨_, ht, ?now, ?expiry, fun hno => ?requests, fun hyes => ?overruns, ?flood, ?wanted, fun hex => ?expires,
    fun hl => ?rests, fun hl => ⟨?counts, fun hge => ?ends, fun hlt => ?goesOn⟩, ?links, ?routes, ?slots, ?mem, ?bus⟩
  case now => rw [hnow, hu]
  case expiry => rw [hexpiry, hengine]
  case requests =>
    rw [hmetric, hcounters, hu]
    dsimp only
    rw [State.requestSweep_requests (s := s.timerReloaded n) hno]
    exact ⟨rfl, rfl⟩
  case overruns =>
    have hover := State.requestSweep_overruns (s := s.timerReloaded n) hyes
    refine ⟨?_, ?_, State.pendingOf_settleSample (State.pendingOf_ageWanted ?_)⟩
    · rw [hmetric, hu, hover]
      rfl
    · rw [hcounters, hu, hover]
      rfl
    · show (s.timerReloaded n).requestSweep.pendingOf .sweepOverrun = true
      rw [hover]
      exact State.pendingOf_raise_same _ _
  case flood =>
    rw [hverdicts, hu]
    exact ageFlood_split _ _
  case wanted =>
    rw [hwanted, hsettings, hu, WantedEntry.aged_eq]
  case expires =>
    refine State.pendingOf_settleSample (State.ageWanted_expires ?_)
    rw [hsettings, hu]
    exact hex
  case rests =>
    rw [State.aged_settled_rests (by rw [hengine]; exact hl), hengine]
    exact ⟨rfl, rfl⟩
  case counts =>
    rcases Nat.lt_or_ge (s.engine.settle + 1) s.settings.settle with hlt | hge
    · rw [State.aged_settled_goesOn (by rw [hengine]; exact hl) (by rw [hengine, hsettings]; exact hlt), hengine]
    · rw [(State.aged_settled_ends (by rw [hengine]; exact hl) (by rw [hengine, hsettings]; exact hge)).1, hengine]
  case ends =>
    obtain ⟨heq, hpending⟩ := State.aged_settled_ends (s := s.sampleTaken n) (by rw [hengine]; exact hl)
      (by rw [hengine, hsettings]; exact hge)
    exact ⟨by rw [heq], hpending⟩
  case goesOn =>
    rw [State.aged_settled_goesOn (by rw [hengine]; exact hl) (by rw [hengine, hsettings]; exact hlt), hengine]
    exact hl
  case links => rw [hlinks, hu]
  case routes => rw [hroutes, hu]
  case slots => rw [hslots, hu]
  case mem => rw [hmem, hu]
  case bus => rw [hbus, hu]

/-! ### The purge window -/

/-- The links of a list of pairs that a purge strikes: those heard (R81). -/
def State.struckBy (s : State) (ns : List LinkName) (i : LinkIx) : Prop :=
  heardState (s.link i).state ∧ ∃ n ∈ ns, s.findLink n = some i

/-- What purging a list of pairs makes of a state (R81, R64, R121). -/
structure State.Purged (s t : State) (ns : List LinkName) : Prop where
  struck : ∀ i, s.struckBy ns i → t.link i = { s.link i with state := .purging }
  spared : ∀ i, ¬s.struckBy ns i → t.link i = s.link i
  down : t.pendingOf .linkDown = true ↔ s.pendingOf .linkDown = true ∨ ∃ i, s.struckBy ns i ∧ (s.link i).state = .live
  evict : ∀ i, i ∈ t.walker.evict ↔ i ∈ s.walker.evict ∨ s.struckBy ns i
  rest : t = { s with links := t.links, events := t.events, walker := { s.walker with evict := t.walker.evict } }

/-- A purge finds the links that were found before it: a PURGING link keeps its name (R65). -/
theorem State.Purged.findLink {ns : List LinkName} (h : s.Purged t ns) (n : LinkName) : t.findLink n = s.findLink n := by
  have hholds (i : LinkIx) : t.holdsLink n i ↔ s.holdsLink n i := by
    unfold State.holdsLink
    by_cases hi : s.struckBy ns i
    · obtain ⟨hheard, -⟩ := id hi
      have hfree : (s.link i).state ≠ .free := LinkState.ne_free_of_estimated ((LinkState.estimated_iff _).2 hheard)
      rw [h.struck i hi]
      simp [hfree]
    · rw [h.spared i hi]
  apply Option.ext
  intro i
  rw [State.findLink_eq_some, State.findLink_eq_some]
  simp only [hholds]

/-- Purging nothing. -/
theorem State.Purged.nil (s : State) : s.Purged s [] where
  struck := fun _ ⟨_, _, hn, _⟩ => nomatch hn
  spared := fun _ _ => rfl
  down := ⟨.inl, fun h => h.elim id fun ⟨_, ⟨_, _, hn, _⟩, _⟩ => nomatch hn⟩
  evict := fun _ => ⟨.inl, fun h => h.elim id fun ⟨_, _, hn, _⟩ => nomatch hn⟩
  rest := rfl

/-- A link that an earlier pair or the last one strikes. -/
theorem State.struckBy_concat {ns : List LinkName} {n : LinkName} {i : LinkIx} :
    s.struckBy (ns ++ [n]) i ↔ s.struckBy ns i ∨ (heardState (s.link i).state ∧ s.findLink n = some i) := by
  unfold State.struckBy
  simp only [List.mem_append, List.mem_singleton, or_and_right, exists_or, exists_eq_left, and_or_left]

/-- A link that is struck is heard no more. -/
theorem not_heardState_purging : ¬heardState .purging := by simp [heardState]

/-- Purging one more pair. -/
theorem State.Purged.concat {ns : List LinkName} (h : s.Purged t ns) (n : LinkName) :
    s.Purged (t.purgeLink n) (ns ++ [n]) := by
  have hsame (hno : ∀ i, s.findLink n = some i → heardState (s.link i).state → s.struckBy ns i) (i : LinkIx) :
      s.struckBy (ns ++ [n]) i ↔ s.struckBy ns i := by
    rw [State.struckBy_concat]
    exact ⟨fun hi => hi.elim id fun ⟨hheard, hf⟩ => hno i hf hheard, .inl⟩
  have hkeep (hno : ∀ i, s.findLink n = some i → heardState (s.link i).state → s.struckBy ns i) (ht : t.purgeLink n = t) :
      s.Purged (t.purgeLink n) (ns ++ [n]) := by
    rw [ht]
    refine ⟨fun i hi => h.struck i ((hsame hno i).1 hi), fun i hi => h.spared i fun hi' => hi ((hsame hno i).2 hi'), ?_,
      fun i => ?_, h.rest⟩
    · simp only [hsame hno]
      exact h.down
    · rw [hsame hno]
      exact h.evict i
  cases hf : s.findLink n with
  | none =>
    refine hkeep (fun i hi => by simp [hf] at hi) ?_
    simp only [State.purgeLink, h.findLink, hf]
  | some i =>
    by_cases hheard : heardState (t.link i).state
    · have hnot : ¬s.struckBy ns i := fun hi => not_heardState_purging (by rw [h.struck i hi] at hheard; exact hheard)
      have hlink : t.link i = s.link i := h.spared i hnot
      have ht : t.purgeLink n = (t.changeLink i { s.link i with state := .purging }).mergeEvict [i] := by
        simp only [State.purgeLink, h.findLink, hf]
        rw [if_pos ((LinkState.estimated_iff _).2 hheard), hlink]
      have hstruck (j : LinkIx) : s.struckBy (ns ++ [n]) j ↔ s.struckBy ns j ∨ j = i := by
        rw [State.struckBy_concat, hf]
        refine or_congr_right ⟨fun hj => (Option.some.inj hj.2).symm, fun hj => ?_⟩
        rw [hj]
        exact ⟨hlink ▸ hheard, rfl⟩
      rw [ht]
      have hlinks : (t.changeLink i { s.link i with state := .purging }).links = t.links.set i.val { s.link i with state := .purging } := by
        rw [State.changeLink_eq]
      have hwalker : (t.changeLink i { s.link i with state := .purging }).walker = t.walker := by rw [State.changeLink_eq]
      refine ⟨fun j hj => ?struck, fun j hj => ?spared, ?down, fun j => ?evict, ?rest⟩
      case struck =>
        by_cases hji : j = i
        · rw [hji]
          exact (congrArg (·[i.val]) hlinks).trans (State.link_setLink_same t i _)
        · rw [← h.struck j (((hstruck j).1 hj).resolve_right hji)]
          exact (congrArg (·[j.val]) hlinks).trans (State.link_setLink_other t _ hji)
      case spared =>
        have hji : j ≠ i := fun hji => hj ((hstruck j).2 (.inr hji))
        rw [← h.spared j fun hj' => hj ((hstruck j).2 (.inl hj'))]
        exact (congrArg (·[j.val]) hlinks).trans (State.link_setLink_other t _ hji)
      case down =>
        have hdown : ((t.changeLink i { s.link i with state := .purging }).mergeEvict [i]).pendingOf .linkDown =
            (t.pendingOf .linkDown || ((t.link i).state == .live && LinkState.purging != .live)) :=
          State.changeLink_linkDown t i _
        rw [hdown, hlink]
        simp only [Bool.or_eq_true, h.down, hstruck, or_and_right, exists_or, exists_eq_left, or_assoc]
        simp
      case evict =>
        rw [hstruck, ← or_assoc, ← h.evict]
        show j ∈ addEvict (t.changeLink i { s.link i with state := .purging }).walker.evict i ↔ _
        rw [hwalker]
        exact mem_addEvict _ _ _
      case rest =>
        rw [State.changeLink_eq, State.mergeEvict, h.rest]
    · refine hkeep (fun j hj hheard' => ?_) ?_
      · obtain rfl : i = j := Option.some.inj (hf.symm.trans hj)
        exact Classical.not_not.1 fun hi => hheard (by rw [h.spared i hi]; exact hheard')
      · simp only [State.purgeLink, h.findLink, hf]
        exact if_neg fun he => hheard ((LinkState.estimated_iff _).1 he)

/-- Purging a list of pairs, one by one. -/
theorem State.purged_foldl (s : State) (ns : List LinkName) : s.Purged (ns.foldl State.purgeLink s) ns := by
  induction ns using list_concat_induction with
  | nil => exact .nil s
  | append_singleton ns n ih =>
    rw [List.foldl_append]
    exact ih.concat n

/-- The state in which the purge window's set is purged. -/
def State.windowClosed (s : State) (t : Nat) : State :=
  { s with now := max s.now t, purge := { s.purge with window := none } }

/-- The purge window's expiry: the set is purged, and a walk begins if it can (R81, R122). -/
theorem State.purgeWindowExpiry_at {n : Nat} (hr : s.inReset = false) (hn : s.purge.window = some n) :
    s.purgeWindowExpiry =
      State.beginWalk
        { s.purge.set.foldl State.purgeLink (s.windowClosed n) with
          purge := { (s.purge.set.foldl State.purgeLink (s.windowClosed n)).purge with set := [] } } := by
  unfold State.purgeWindowExpiry
  rw [hr, hn]
  rfl

/-- Settles O45, by what purging the set leaves (`State.purged_foldl`). -/
theorem purgeWindowExpires : Obligations.PurgeWindowExpires := by
  intro n s hr hn hruns struck
  have hp := (s.windowClosed n).purged_foldl s.purge.set
  obtain ⟨hstruck, hspared, hdown, hevict, hrest⟩ := id hp
  have ht := State.purgeWindowExpiry_at hr hn
  generalize s.purge.set.foldl State.purgeLink (s.windowClosed n) = u at *
  rw [State.beginWalk_running (by rw [hrest]; exact hruns)] at ht
  refine ⟨_, congrArg Host.Outcome.next ht, ?now, ?purge, ?routes, ?counters, hstruck, hspared, hdown, fun hw => ⟨?walk, fun i => ?evict⟩,
    fun hw ⟨i, hi⟩ => ?begins⟩
  case now => rw [hrest]; rfl
  case purge => rw [hrest]; rfl
  case routes => rw [hrest]; rfl
  case counters => rw [hrest]; rfl
  case walk =>
    dsimp only
    rw [Walker.begun_walking (by rw [hrest]; exact hw), hrest]
    rfl
  case evict =>
    dsimp only
    rw [Walker.begun_walking (by rw [hrest]; exact hw)]
    exact hevict i
  case begins =>
    have hwork : u.walker.hasWork = true :=
      (Walker.hasWork_iff _).2 (.inr (.inr (List.ne_nil_of_mem ((hevict i).2 (.inr hi)))))
    dsimp only
    rw [Walker.begun_begins (by rw [hrest]; exact hw) hwork]
    exact ⟨_, rfl, rfl, hevict⟩

end Sys2Proof.Machine
end

section
/-! PROOFS. The rules of a decided verdict; header writes, outcomes and stray landings (O22, O23, O24, O28, O29). -/

namespace Sys2Proof.Machine

variable {s t : State}

/-! ### A decided verdict -/

/-- The counters of a decided verdict, by their places (R62). -/
theorem verdictCounts_eq (code : VerdictCode) (reason : Option RefusalReason) :
    verdictCounts code reason = (verdictCounters code reason).map Counter.ix := by
  cases code
  case dropRefused =>
    simp only [verdictCounts, verdictCounters, apply_ite (List.map Counter.ix)]
    rfl
  all_goals rfl

/-- The slots after a verdict is recorded (R13). -/
def State.recordedSlots (s : State) (l : Landing) (v : Verdict) : Vector SlotRecord 512 :=
  if l.current = true then
    s.slots.set l.slot.val { s.slot l.slot with verdict := v.code, verdictLink := v.link, refusal := v.reason }
  else s.slots

/-- A verdict recorded in a record that was just replaced. -/
theorem State.recordedSlots_setSlot (s : State) {l : Landing} (h : l.current = true) (r : SlotRecord) (v : Verdict) :
    (s.setSlot l.slot r).recordedSlots l v =
      s.slots.set l.slot.val { r with verdict := v.code, verdictLink := v.link, refusal := v.reason } := by
  rw [State.recordedSlots, if_pos h, State.slot_setSlot_same]
  exact Vector.set_set _ _

/-- A decided verdict is counted and recorded. -/
theorem State.countAll_recordVerdict (s : State) (l : Landing) (v : Verdict) :
    (s.countAll (verdictCounters v.code v.reason)).recordVerdict l v =
      { s with counters := countedFor s.counters v.code v.reason, slots := s.recordedSlots l v } := by
  have hcount : countedFor s.counters v.code v.reason =
      (verdictCounters v.code v.reason).foldl (fun cs c => countedAt cs c.ix) s.counters := by
    rw [countedFor, verdictCounts_eq, List.foldl_map]
  rw [State.countAll_eq, ← hcount]
  unfold State.recordVerdict State.recordedSlots
  split <;> rfl

/-- A decided verdict whose write is not held (R13, R62). -/
theorem State.announce_passed {l : Landing} (h : l.held = false) (v : Verdict) :
    s.announce l v =
      { s with counters := countedFor s.counters v.code v.reason, slots := s.recordedSlots l v } := by
  rw [State.announce_unheld h, State.countAll_recordVerdict]

/-- A decided verdict that releases its held write (R13, R23, R36, R62). -/
theorem State.announce_releases {l : Landing} (h : l.held = true) {a : WordAddr} {d : Word} {be : Enables} {n : LinkName}
    (hheld : s.bus.held = some (.landing a d be n)) (v : Verdict) :
    s.announce l v =
      { s with
        counters := countedFor s.counters v.code v.reason, slots := s.recordedSlots l v
        bus := { s.bus with held := none }
        mem := s.mem.writeWord a (withVerdictByte d (verdictByte v.code v.mask (s.staleFlag l.link))) be } := by
  unfold State.announce
  dsimp only
  rw [if_pos h, State.countAll_recordVerdict]
  exact State.releaseLanding_held
    (s := { s with counters := countedFor s.counters v.code v.reason, slots := s.recordedSlots l v }) hheld _

/-- A decided verdict is counted (R62). -/
theorem State.announce_counters (s : State) (l : Landing) (v : Verdict) :
    (s.announce l v).counters = countedFor s.counters v.code v.reason := by
  unfold State.announce
  rw [State.countAll_recordVerdict]
  dsimp only
  split
  · rw [State.releaseLanding_eq]
  · rfl

/-- A decided verdict is recorded (R13). -/
theorem State.announce_slots (s : State) (l : Landing) (v : Verdict) : (s.announce l v).slots = s.recordedSlots l v := by
  unfold State.announce
  rw [State.countAll_recordVerdict]
  dsimp only
  split
  · rw [State.releaseLanding_eq]
  · rfl

/-! ### Captured words -/

/-- The clamped budget in byte 1 of word 3 (R28). -/
theorem byteOf_clampBudget (d : Word) (j : Fin 4) :
    byteOf (clampBudget d) j = if j = 1 ∧ 31 < (byteOf d j).toNat then 31 else byteOf d j := by
  have hbyte : numField d 16 8 = (byteOf d 1).toNat := rfl
  unfold clampBudget
  rw [hbyte]
  by_cases hd : 31 < (byteOf d 1).toNat
  · have hmask : ∀ j : Fin 4, byteOf 0xFF00FFFF#32 j = if j = 1 then 0#8 else BitVec.allOnes 8 := by decide
    have hset : ∀ j : Fin 4, byteOf 0x001F0000#32 j = if j = 1 then 31 else 0#8 := by decide
    have hparts : byteOf ((d &&& 0xFF00FFFF#32) ||| 0x001F0000#32) j =
        (byteOf d j &&& byteOf 0xFF00FFFF#32 j) ||| byteOf 0x001F0000#32 j := by
      unfold byteOf
      rw [BitVec.extractLsb'_or, BitVec.extractLsb'_and]
    rw [if_pos hd, hparts, hmask, hset]
    by_cases hj : j = 1
    · rw [if_pos hj, if_pos hj, if_pos ⟨hj, hj ▸ hd⟩, BitVec.and_zero, BitVec.zero_or]
    · rw [if_neg hj, if_neg hj, if_neg fun h => hj h.1, BitVec.and_allOnes, BitVec.or_zero]
  · rw [if_neg hd, if_neg]
    rintro ⟨rfl, h⟩
    exact hd h

/-- A header write captures its enabled bytes (R8, R28). -/
theorem SlotRecord.capture_captures (r : SlotRecord) (w : HeaderIx) (d : Word) (be : Enables) :
    r.captures (r.capture w d be) w d be := by
  refine ⟨rfl, fun v hv => ⟨?_, ?_⟩, ?_, fun j => ?_⟩
  · exact Vector.getElem_set_ne w.isLt v.isLt (fun h => hv (Fin.ext h.symm))
  · exact Vector.getElem_set_ne w.isLt v.isLt (fun h => hv (Fin.ext h.symm))
  · exact Vector.getElem_set_self _
  · have hword : (r.capture w d be).words[w.val] = mergeBytes be r.words[w.val] (if w = 1 then clampBudget d else d) :=
      Vector.getElem_set_self _
    rw [hword, byteOf_mergeBytes]
    cases be.getLsbD (3 - j.val)
    · rfl
    · rw [if_pos rfl, if_neg (by decide : ¬true = false)]
      by_cases hw : w = 1
      · rw [if_pos hw, byteOf_clampBudget]
        simp only [hw, true_and]
      · rw [if_neg hw, if_neg fun h => hw h.1]

/-! ### Writes to a slot -/

/-- A write to a slot while no access is held. -/
theorem exec_slotWriteRow_free {a : WriteAccess} {c : Instr} (hc : c ∈ slotWriteRows a) (h : s.bus.held = none) :
    exec c s = .next (s.performWrite a) := by
  rw [exec_slotWriteRow hc, State.onPort_free h]

/-- A mesh port's header write (R9). -/
theorem exec_headerWrite {a : WriteAccess} {p : Port} {k : SlotNo} {w : HeaderIx}
    (h : s.meshAt a.initiator a.addr p k (w.val + 2)) :
    exec (.receiveHeaderWrite a) s = .next (s.headerAccess p k w a) := by
  have hrow : Instr.receiveHeaderWrite a ∈ slotWriteRows a := by simp [slotWriteRows]
  rw [exec_slotWriteRow_free hrow h.1.1, State.performWrite, State.writeClass_header h]

/-- A slot is being filled by a port, in the words of the statements. -/
theorem SlotRecord.fillingBy_iff {r : SlotRecord} {p : Port} :
    r.fillingBy p = true ↔ r.state = .filling ∧ r.passPort = some p := by
  simp [SlotRecord.fillingBy]

/-- Where the ended work of a slot is counted when a receive pass or a stray landing takes the slot (Table 5 of chapter 1). -/
def State.endedCounters (s : State) (k : SlotNo) : Vector Nat 16 :=
  match (s.slot k).state with
  | .vacant | .landed | .composed => s.counters
  | .filling | .inSend => countedAt s.counters 14
  | .awaitingOutcome => countedAt s.counters 10

/-- What a slot was doing ends, with its count. -/
theorem State.endForFill_counters (s : State) (k : SlotNo) : (s.endForFill k).counters = s.endedCounters k := by
  unfold State.endForFill State.endedCounters
  cases h : (s.slot k).state with
  | inSend => cases hp : (s.slot k).passPort <;> simp only [h, hp] <;> rfl
  | _ => simp only [h] <;> rfl

/-- The search for another FILLING slot depends on the slots alone. -/
theorem State.otherFilling_congr (h : t.slots = s.slots) (p : Port) (k : SlotNo) :
    t.otherFilling p k = s.otherFilling p k := by
  unfold State.otherFilling State.slot
  rw [h]

/-- The binding of a pass that the end of the slot's work drops (R148). -/
theorem State.bindingsWithout_dropped {k : SlotNo} {q : Port} (h : (s.slot k).state = .inSend)
    (hq : (s.slot k).passPort = some q) : (s.bindingsWithout k)[q.val] = none := by
  rw [State.bindingsWithout, if_pos h, hq]
  exact Vector.getElem_set_self _

/-- The bindings that the end of the slot's work keeps. -/
theorem State.bindingsWithout_kept {k : SlotNo} {q : Port}
    (h : ¬((s.slot k).state = .inSend ∧ (s.slot k).passPort = some q)) : (s.bindingsWithout k)[q.val] = s.binding q := by
  rw [State.bindingsWithout]
  by_cases hk : (s.slot k).state = .inSend
  · rw [if_pos hk]
    cases hp : (s.slot k).passPort with
    | none => rfl
    | some p =>
      have hpq : p.val ≠ q.val := fun hpq => h ⟨hk, hp.trans (congrArg some (Fin.ext hpq))⟩
      exact Vector.getElem_set_ne p.isLt q.isLt hpq
  · rw [if_neg hk]
    rfl

/-- A landing of a disowned record owns it no more (R13). -/
theorem State.disowned_not_current {k : SlotNo} {l : Landing} (h : l ∈ (s.disownRecord k).landings) (hk : l.slot = k) :
    l.current = false := by
  rw [State.disownRecord_landings] at h
  obtain ⟨l', -, rfl⟩ := List.mem_map.1 h
  unfold Landing.unless at hk ⊢
  split at hk
  next hl => rw [if_pos hl]
  next hl => exact absurd hk hl

/-- A restarted or continued receive pass (R9). -/
theorem State.headerAccess_continues {p : Port} {k : SlotNo} (h : (s.slot k).fillingBy p = true) (w : HeaderIx)
    (a : WriteAccess) :
    s.headerAccess p k w a =
      { s with
        mem := s.mem.writeWord a.addr a.data a.be
        slots := s.slots.set k.val ((if w = 0 then (s.slot k).cleared else s.slot k).capture w a.data a.be) } := by
  unfold State.headerAccess State.receiveHeader
  dsimp only
  exact if_pos h

/-- What a new receive pass makes of the state (R9, R10). -/
theorem State.headerAccess_begins {p : Port} {k : SlotNo} (h : ¬(s.slot k).fillingBy p = true) (w : HeaderIx)
    (a : WriteAccess) :
    let t := s.headerAccess p k w a
    let u := (s.passing a).endForFill k
    t = { s with
          mem := s.mem.writeWord a.addr a.data a.be
          slots := (u.abandonOther p k).slots.set k.val ((SlotRecord.newFill p).capture w a.data a.be)
          counters := (u.abandonOther p k).counters, overlay := u.overlay
          verdicts := (s.disownRecord k).verdicts } := by
  intro t u
  have ht : t = ((u.abandonOther p k).disownRecord k).setSlot k ((SlotRecord.newFill p).capture w a.data a.be) := by
    show (s.passing a).receiveHeader p k w a.data a.be = _
    unfold State.receiveHeader
    exact if_neg h
  have hu : u = _ := (s.passing a).endForFill_eq k
  rw [ht, State.abandonOther_eq]
  generalize (u.abandonOther p k).slots = slots
  generalize (u.abandonOther p k).counters = counters
  rw [hu]
  rfl

/-- The slots that a slot write's ended work leaves. -/
theorem State.endForFill_slots (s : State) (k : SlotNo) : (s.endForFill k).slots = s.slots := by
  rw [State.endForFill_eq]

/-- Settles O22: a write to the slot that the port fills goes on with the pass, and another one begins it. -/
theorem receiveHeaderWriteResult : Obligations.ReceiveHeaderWriteResult := by
  refine ⟨fun a p k w s hmesh hst hport => ?goesOn, fun a p k w s hmesh hnot hother => ?begins⟩
  case goesOn =>
    refine ⟨_, (exec_headerWrite hmesh).trans
      (congrArg Host.Outcome.next (State.headerAccess_continues (SlotRecord.fillingBy_iff.2 ⟨hst, hport⟩) w a)), ?_⟩
    exact SlotRecord.capture_captures _ w a.data a.be
  case begins =>
    have hnone : ((s.passing a).endForFill k).otherFilling p k = none := by
      rw [State.otherFilling_congr (s := s) (by rw [State.endForFill_slots]; rfl)]
      cases hf : s.otherFilling p k with
      | none => rfl
      | some j =>
        obtain ⟨hj, hfill, hp⟩ := State.otherFilling_some hf
        exact absurd hp (hother j hj hfill)
    have ht := State.headerAccess_begins (fun h => hnot (SlotRecord.fillingBy_iff.1 h)) w a
    dsimp only at ht
    rw [State.abandonOther_none hnone, State.endForFill_slots, State.endForFill_counters] at ht
    refine ⟨_, (exec_headerWrite hmesh).trans (congrArg Host.Outcome.next ht), rfl, ?slot, fun j hj => ?others, rfl,
      fun q hq hp => ?dropped, fun q hq => ?kept, fun l hl hk => State.disowned_not_current hl hk, rfl, rfl, rfl, rfl, rfl⟩
    case slot =>
      rw [show State.slot _ k = _ from Vector.getElem_set_self _]
      exact SlotRecord.capture_captures _ w a.data a.be
    case others => exact Vector.getElem_set_ne k.isLt j.isLt fun h => hj (Fin.ext h.symm)
    case dropped =>
      show ((s.passing a).endForFill k).overlay.bindings[q.val] = none
      rw [State.endForFill_bindings]
      exact State.bindingsWithout_dropped (s := s.passing a) hq hp
    case kept =>
      show ((s.passing a).endForFill k).overlay.bindings[q.val] = _
      rw [State.endForFill_bindings]
      exact State.bindingsWithout_kept (s := s.passing a) hq

/-! ### Landings that stray -/

/-- The landing of a stray write, whose record is fresh (R12). -/
def strayOf (p : Port) (k : SlotNo) (a : WriteAccess) : Landing :=
  landingOf k p (SlotRecord.stray p).words (SlotRecord.stray p).marks a.data a.be

/-- The transmitter of a fresh record names no link, so that the stale-link flag is set (R26, R56). -/
theorem State.staleFlag_strayOf (s : State) (p : Port) (k : SlotNo) (a : WriteAccess) :
    s.staleFlag (strayOf p k a).link = true := by
  have hnode : notANode (strayOf p k a).link.node = true := by
    show notANode (hdrTransmitter (Vector.replicate 5 0)) = true
    decide
  unfold State.staleFlag State.findLink
  rw [if_pos hnode]

/-- A landing's write reaches memory with its verdict byte when the verdict comes at once (R11, R22, R36). -/
theorem State.tapLanding_announce {l : Landing} {a : WriteAccess} (hl : l.held = a.be.getLsbD 0) (h : s.bus.held = none)
    (v : Verdict) :
    (s.tapLanding a l.link).announce l v =
      { s with
        counters := countedFor s.counters v.code v.reason, slots := s.recordedSlots l v
        mem := s.mem.writeWord a.addr
          (if a.be.getLsbD 0 = true then withVerdictByte a.data (verdictByte v.code v.mask (s.staleFlag l.link)) else a.data)
          a.be } := by
  unfold State.tapLanding
  by_cases hbe : a.be.getLsbD 0 = true
  · rw [if_pos hbe, if_pos hbe, State.announce_releases (hl.trans hbe) (n := l.link) (a := a.addr) (d := a.data) (be := a.be) rfl]
    simp only [← h]
    rfl
  · rw [if_neg hbe, if_neg hbe, State.announce_passed (hl.trans (Bool.not_eq_true _ |>.mp hbe))]
    rfl

/-- A stray landing (R12). -/
theorem State.landStray_eq {p : Port} {k : SlotNo} {a : WriteAccess} (h : s.bus.held = none) :
    s.landStray p k a =
      { s with
        counters := countedAt (countedAt (s.endedCounters k) 0) 5
        slots := s.slots.set k.val { SlotRecord.stray p with verdict := .dropMalformed }
        mem := s.mem.writeWord a.addr
          (if a.be.getLsbD 0 = true then withVerdictByte a.data 0x89#8 else a.data) a.be
        overlay := (s.endForFill k).overlay, verdicts := (s.disownRecord k).verdicts } := by
  have ht : s.landStray p k a =
      (((((s.endForFill k).disownRecord k).setSlot k (SlotRecord.stray p)).count .framesLanded).tapLanding a
        (strayOf p k a).link).announce (strayOf p k a) (.plain .dropMalformed) := rfl
  have hend : s.endForFill k = { s with counters := s.endedCounters k, overlay := (s.endForFill k).overlay } := by
    rw [← State.endForFill_counters]
    exact s.endForFill_eq k
  generalize (s.endForFill k).overlay = overlay at *
  rw [ht, State.tapLanding_announce rfl (by rw [hend]; exact h), State.staleFlag_strayOf, hend]
  have hrecorded : (State.recordedSlots (((({ s with counters := s.endedCounters k, overlay := overlay } :
      State).disownRecord k).setSlot k (SlotRecord.stray p)).count .framesLanded) (strayOf p k a)
      (.plain .dropMalformed)) = s.slots.set k.val { SlotRecord.stray p with verdict := .dropMalformed } :=
    s.recordedSlots_setSlot (l := strayOf p k a) rfl _ _
  rw [hrecorded]
  rfl

/-- Settles O28: a stray landing is dropped at its arrival. -/
theorem strayLandingIsMalformed : Obligations.StrayLandingIsMalformed := by
  intro a p k s hmesh hnot ended
  have hclass : s.writeClass a = .stray p k := by
    rw [State.writeClass_mesh hmesh]
    exact (if_pos rfl).trans (if_neg fun h => hnot (SlotRecord.fillingBy_iff.1 h))
  have hrow : Instr.strayLanding a ∈ slotWriteRows a := by simp [slotWriteRows]
  have ht : exec (.strayLanding a) s = .next (s.landStray p k a) := by
    rw [exec_slotWriteRow_free hrow hmesh.1.1, State.performWrite, hclass]
  refine ⟨_, ht.trans (congrArg Host.Outcome.next (State.landStray_eq hmesh.1.1)), rfl, ?_, rfl, rfl, rfl, rfl, rfl, rfl, rfl,
    fun l hl hk => State.disowned_not_current hl hk, fun q hq hp => ?_⟩
  · dsimp only [ended]
    unfold State.endedCounters
    cases (s.slot k).state <;> rfl
  · show (s.endForFill k).overlay.bindings[q.val] = none
    rw [State.endForFill_bindings]
    exact State.bindingsWithout_dropped hq hp

/-- Settles O23: in owned passes the search finds the slot that the port was filling. -/
theorem fillIsAbandoned : Obligations.FillIsAbandoned := by
  refine ⟨fun a p j k w s hs hmesh hjk hst hport => ?abandons, fun a p k s hmesh hst hport => ?restarts,
    fun a p j k s hmesh hjk hnot => ?stray⟩
  case abandons =>
    have hnot : ¬((s.slot k).state = .filling ∧ (s.slot k).passPort = some p) := fun h =>
      hjk (hs.fills hst h.1 (hport.trans h.2.symm))
    have hfound : ((s.passing a).endForFill k).otherFilling p k = some j := by
      rw [State.otherFilling_congr (s := s) (by rw [State.endForFill_slots]; rfl)]
      cases hf : s.otherFilling p k with
      | none => exact absurd hport (State.otherFilling_none hf hjk hst)
      | some i =>
        obtain ⟨hi, hfill, hp⟩ := State.otherFilling_some hf
        rw [hs.fills hst hfill (hport.trans hp.symm)]
    have ht := State.headerAccess_begins (fun h => hnot (SlotRecord.fillingBy_iff.1 h)) w a
    dsimp only at ht
    rw [State.abandonOther_some hfound] at ht
    have hslots : ((((s.passing a).endForFill k).setSlot j SlotRecord.vacant).count .abandoned).slots =
        s.slots.set j.val SlotRecord.vacant := by
      rw [State.count_slots, State.setSlot_slots, State.endForFill_slots]
      rfl
    have hcounters : ((((s.passing a).endForFill k).setSlot j SlotRecord.vacant).count .abandoned).counters =
        countedAt (s.endedCounters k) 14 := by
      rw [State.count_eq]
      exact congrArg (countedAt · 14) (State.endForFill_counters _ k)
    rw [hslots, hcounters] at ht
    have hslot (i : SlotNo) (hi : i ≠ k) : ((s.slots.set j.val SlotRecord.vacant).set k.val
        ((SlotRecord.newFill p).capture w a.data a.be))[i.val] = if i = j then SlotRecord.vacant else s.slot i := by
      rw [Vector.getElem_set_ne k.isLt i.isLt fun h => hi (Fin.ext h.symm)]
      by_cases hij : i = j
      · rw [if_pos hij, hij]
        exact State.slot_setSlot_same s j _
      · rw [if_neg hij]
        exact State.slot_setSlot_other s _ hij
    have hfilled : ((s.slots.set j.val SlotRecord.vacant).set k.val
        ((SlotRecord.newFill p).capture w a.data a.be))[k.val] = (SlotRecord.newFill p).capture w a.data a.be :=
      Vector.getElem_set_self _
    refine ⟨_, (exec_headerWrite hmesh).trans (congrArg Host.Outcome.next ht), ?_, ?_, ?_, fun i hij hik => ?_, ?_⟩
    · exact (hslot j hjk).trans (if_pos rfl)
    · exact congrArg SlotRecord.state hfilled
    · exact congrArg SlotRecord.passPort hfilled
    · exact (hslot i hik).trans (if_neg hij)
    · dsimp only
      unfold State.endedCounters
      cases (s.slot k).state <;> rfl
  case restarts =>
    refine ⟨_, (exec_headerWrite (w := 0) hmesh).trans
      (congrArg Host.Outcome.next (State.headerAccess_continues (SlotRecord.fillingBy_iff.2 ⟨hst, hport⟩) 0 a)), rfl,
      fun j hj => Vector.getElem_set_ne k.isLt j.isLt fun h => hj (Fin.ext h.symm)⟩
  case stray =>
    obtain ⟨t, ht, hslots, -⟩ := strayLandingIsMalformed a p k s hmesh hnot
    refine ⟨t, ht, ?_⟩
    unfold State.slot
    rw [hslots]
    exact Vector.getElem_set_ne k.isLt j.isLt fun h => hjk (Fin.ext h.symm)

/-! ### Software writes -/

/-- A software header write reaches memory and captures (R14). -/
theorem exec_softwareHeaderWrite {a : WriteAccess} {k : SlotNo} {w : HeaderIx}
    (h : s.softwareAt a.initiator a.addr k (w.val + 2)) :
    exec (.softwareHeaderWrite a) s = .next ((s.passing a).softwareHeader k w a.data a.be) := by
  have hrow : Instr.softwareHeaderWrite a ∈ slotWriteRows a := by simp [slotWriteRows]
  rw [exec_slotWriteRow_free hrow h.1.1, State.performWrite, State.writeClass_software h, softwareWriteClass, headerIx_of]
  rfl

/-- A record set to what it is leaves the slots. -/
theorem State.setSlot_slot (s : State) (k : SlotNo) : s.slots.set k.val (s.slot k) = s.slots := Vector.set_getElem_self _

/-- Settles O24: one case per slot state. -/
theorem softwareHeaderWriteComposes : Obligations.SoftwareHeaderWriteComposes := by
  intro a k w s hsoft
  have ht := exec_softwareHeaderWrite hsoft
  have hcapture (r : SlotRecord) : r.captures (r.capture w a.data a.be) w a.data a.be := r.capture_captures w a.data a.be
  have hslot : (s.passing a).slot k = s.slot k := rfl
  unfold State.softwareHeader at ht
  rw [hslot] at ht
  dsimp only at ht
  cases hst : (s.slot k).state with
  | filling =>
    rw [hst] at ht
    refine ⟨s.slot k, ht.trans (congrArg Host.Outcome.next ?_), rfl⟩
    rw [State.setSlot_slot]
    rfl
  | vacant =>
    rw [hst] at ht
    exact ⟨_, ht, hcapture SlotRecord.newComposed⟩
  | landed | composed =>
    rw [hst] at ht
    exact ⟨_, ht, hcapture { s.slot k with state := .composed, source := some .composed }⟩
  | inSend | awaitingOutcome =>
    rw [hst] at ht
    exact ⟨_, ht, hcapture { s.slot k with source := some .composed }⟩

/-! ### Outcomes -/

/-- A matched outcome (R19). -/
theorem exec_matchedOutcome {a : WriteAccess} {p : Port} {k : SlotNo} (h : s.meshAt a.initiator a.addr p k 1)
    (hm : s.matchesOutcome p k a.be = true) :
    exec (.matchedOutcome a) s = .next ((s.passing a).takeOutcome k a.data) := by
  have hrow : Instr.matchedOutcome a ∈ slotWriteRows a := by simp [slotWriteRows]
  rw [exec_slotWriteRow_free hrow h.1.1, State.performWrite, State.writeClass_outcome h, if_pos hm]
  rfl

/-- Settles O29: the outcome and the expiry end the wait alike; the outcome joins the queue while there is room. -/
theorem outcomeWaitEnds : Obligations.OutcomeWaitEnds := by
  refine ⟨?outcome, fun k n s hr hst hn => ?expiry⟩
  case outcome =>
    intro a p k s hmesh hbe hst hport r back ended
    have ht := exec_matchedOutcome hmesh (State.matchesOutcome_iff.2 ⟨hbe, hst, hport⟩)
    have hslot : (s.passing a).slot k = s.slot k := rfl
    unfold State.takeOutcome at ht
    rw [hslot] at ht
    dsimp only at ht
    refine ⟨fun hsent => ?_, fun n hsent => ⟨fun hroom => ?_, fun hfull => ?_⟩⟩
    · rw [show (s.slot k).sentLink = none from hsent] at ht
      exact ht
    · rw [show (s.slot k).sentLink = some n from hsent] at ht
      exact ht.trans (congrArg Host.Outcome.next (if_pos hroom))
    · rw [show (s.slot k).sentLink = some n from hsent] at ht
      exact ht.trans (congrArg Host.Outcome.next (if_neg (Nat.not_lt.2 hfull)))
  case expiry =>
    refine congrArg Host.Outcome.next ?_
    unfold State.expireDeadline
    dsimp only
    rw [hr, if_neg (by decide), hst, hn]
    rfl

end Sys2Proof.Machine
end

section
/-! PROOFS. The table arbiter (O36). -/

namespace Sys2Proof.Machine

variable {s t : State}

/-! ### Requests -/

/-- Requests other than the Verdict Unit's, in the words of Table 2 of chapter 6. -/
theorem State.otherRequests_iff (s : State) (r : Requester) : s.otherRequests r = true ↔ s.asks r := by
  cases r with
  | verdict => exact ⟨fun h => (nomatch h), False.elim⟩
  | overlay =>
    show ((List.finRange 3).any s.awaitsLookup) = true ↔ ∃ p b, s.binding p = some b ∧ b.how = .awaiting
    simp only [List.any_eq_true, List.mem_finRange, true_and, State.awaitsLookup_iff, Option.mem_def]
  | command =>
    show (s.command.running && stepCodes.contains s.command.code) = true ↔ _
    rw [Bool.and_eq_true, List.contains_iff_mem]
    exact Iff.rfl
  | walker => exact Option.isSome_iff_ne_none

/-- Storage has gone to a requester before a choosing step (R104). -/
theorem State.storageHolder_eq_some (s : State) (r : Requester) : s.storageHolder = some r ↔ s.givenTo r := by
  constructor
  · intro h
    obtain ⟨hwork, hreq⟩ := State.storageHolder_some h
    exact ⟨(s.otherRequests_iff r).1 hreq, hwork⟩
  · rintro ⟨hasks, l, m, p, i, hwork⟩
    unfold State.storageHolder
    rw [hwork]
    exact Option.filter_eq_some_iff.2 ⟨rfl, (s.otherRequests_iff r).2 hasks⟩

/-- Storage has gone to no requester. -/
theorem State.storageHolder_eq_none (s : State) : s.storageHolder = none ↔ ∀ r, ¬s.givenTo r := by
  simp only [Option.eq_none_iff_forall_ne_some, ne_eq, State.storageHolder_eq_some]

/-- A request waits at the arbiter: another requester's, or that of a computation while storage has gone to none (R99, R104). -/
def State.waits (s : State) (r : Requester) : Prop :=
  s.asks r ∨ (r = .verdict ∧ s.verdicts.work ≠ none ∧ ∀ h, ¬s.givenTo h)

/-- Waiting requests, in the words of the statements. -/
theorem State.requests_iff (s : State) (r : Requester) : s.requests r = true ↔ s.waits r := by
  unfold State.requests State.waits
  by_cases hr : r = .verdict
  · subst hr
    rw [if_pos rfl, State.verdictRequests, Bool.and_eq_true, Option.isSome_iff_ne_none, Option.isNone_iff_eq_none,
      State.storageHolder_eq_none]
    exact ⟨fun h => .inr ⟨rfl, h⟩, fun h => h.elim False.elim fun h => h.2⟩
  · rw [if_neg hr, State.otherRequests_iff]
    exact ⟨.inl, fun h => h.elim id fun h => absurd h.1 hr⟩

/-- The class of a request (Table 2 of chapter 6). -/
theorem State.arbClass_eq (s : State) (r : Requester) : s.arbClass r = s.classOf r := by
  cases r with
  | verdict =>
    unfold State.arbClass State.classOf
    cases s.verdicts.work <;> simp
  | _ => rfl

/-- The arbiter's grant, in the words of the statements (R98, R99, R100, R104, R158). -/
theorem State.granted_iff (s : State) (r : Requester) :
    s.granted r = true ↔ s.bus.resetLow = false ∧ s.bus.power = .ended ∧ s.waits r ∧
      (s.givenTo r ∨ ((∀ h, ¬s.givenTo h) ∧ ∀ q, s.waits q → s.classOf r ≤ s.classOf q)) := by
  unfold State.granted
  rw [Bool.and_eq_true, Bool.and_eq_true, Bool.not_eq_true', State.inReset_eq_false, State.requests_iff, and_assoc, and_assoc]
  refine and_congr_right fun _ => and_congr_right fun _ => and_congr_right fun _ => ?_
  cases hh : s.storageHolder with
  | some h =>
    have hgiven := (s.storageHolder_eq_some h).1 hh
    constructor
    · intro heq
      exact .inl ((beq_iff_eq.1 heq) ▸ hgiven)
    · rintro (hr | ⟨hno, -⟩)
      · exact beq_iff_eq.2 (Option.some.inj (hh.symm.trans ((s.storageHolder_eq_some r).2 hr)))
      · exact absurd hgiven (hno h)
  | none =>
    have hno := s.storageHolder_eq_none.1 hh
    have hall : (([Requester.verdict, .overlay, .command, .walker].all
        fun q => !s.requests q || decide (s.arbClass r ≤ s.arbClass q)) = true) ↔
        ∀ q, s.waits q → s.classOf r ≤ s.classOf q := by
      simp only [List.all_eq_true, Bool.or_eq_true, Bool.not_eq_true', decide_eq_true_eq, ← Bool.not_eq_true,
        State.requests_iff, State.arbClass_eq]
      refine ⟨fun h q hq => (h q (by cases q <;> simp)).resolve_left (not_not_intro hq), fun h q _ => ?_⟩
      by_cases hq : s.waits q
      · exact .inr (h q hq)
      · exact .inl hq
    exact hall.trans ⟨fun h => .inr ⟨hno, h⟩, fun h => h.elim (fun hr => absurd hr (hno r)) fun h => h.2⟩

/-- When another requester's step has ended, the choosing step is requested (R104). -/
theorem State.afterOtherStep_choosing {l : Landing} {m : PortMask} {p : Bool} {i : LinkIx} {first : Option Requester}
    (h : s.verdicts.work = some { landing := l, phase := .choosing m p i first }) :
    s.afterOtherStep.verdicts.work = some { landing := l, phase := .choosing m p i none } := by
  show s.verdicts.work.map _ = _
  rw [h]
  rfl

/-! ### Rows of granted steps -/

/-- What a row leaves whose step is a requester's: nothing changes while it is not granted; when another requester's is, the
choosing step is requested, or the row is not the one that its requester asks for (R104). -/
def State.arbitrated (s : State) (r : Requester) (t : State) : Prop :=
  (s.granted r = false → t = s) ∧
    (s.granted r = true → r ≠ .verdict → t.verdicts = s.afterOtherStep.verdicts ∨ t = s)

/-- The step of a command whose body leaves the Verdict Unit. -/
theorem State.arbitrated_commandStep {body : State → State} (h : ∀ u : State, (body u).verdicts = u.verdicts) (s : State)
    (code : Byte) : s.arbitrated .command (s.commandStep code body) := by
  refine ⟨fun hg => ?_, fun hg _ => ?_⟩
  · rw [State.commandStep, hg]
    rfl
  · rw [State.commandStep, hg, Bool.true_and]
    split
    · exact .inl (h _)
    · exact .inr rfl

/-- A selection leaves the Verdict Unit. -/
theorem State.verdicts_reselect (s : State) (i : RouteIx) (e : RouteEntry) : (s.reselect i e).verdicts = s.verdicts := by
  rw [State.reselect_eq]

/-- The step of PIN ROUTE leaves the Verdict Unit. -/
theorem State.verdicts_pinStepBody (s : State) : s.pinStepBody.verdicts = s.verdicts := by
  unfold State.pinStepBody
  dsimp only
  split
  · exact s.verdicts_reselect _ _
  · split
    · exact s.verdicts_reselect _ _
    · rfl

/-- The step of UNPIN leaves the Verdict Unit. -/
theorem State.verdicts_unpinStepBody (s : State) : s.unpinStepBody.verdicts = s.verdicts := by
  unfold State.unpinStepBody
  split
  · rfl
  · split
    · exact s.verdicts_reselect _ _
    · rfl

/-- The step of READ ROUTE leaves the Verdict Unit. -/
theorem State.verdicts_readRouteStepBody (s : State) : s.readRouteStepBody.verdicts = s.verdicts := by
  unfold State.readRouteStepBody
  split <;> rfl

/-- The step of READ WANTED leaves the Verdict Unit. -/
theorem State.verdicts_readWantedStepBody (s : State) : s.readWantedStepBody.verdicts = s.verdicts := by
  unfold State.readWantedStepBody
  dsimp only
  split <;> rfl

/-- The step of RELEASE WANTED leaves the Verdict Unit. -/
theorem State.verdicts_releaseWantedStepBody (s : State) : s.releaseWantedStepBody.verdicts = s.verdicts := by
  unfold State.releaseWantedStepBody
  dsimp only
  split <;> rfl

/-- A walk's completion leaves the Verdict Unit. -/
theorem State.verdicts_completeWalk (s : State) (w : Walk) : (s.completeWalk w).verdicts = s.verdicts := by
  unfold State.completeWalk
  dsimp only
  obtain ⟨set, ls, h⟩ := freeEvicted_shape s w.evict
  rw [State.beginWalk_eq, h, State.raiseIf_eq]
  split <;> rfl

/-- The step of a walk leaves the Verdict Unit. -/
theorem State.verdicts_walkStep (s : State) (w : Walk) : ((s.walkEntry w).advanceWalk w).verdicts = s.verdicts := by
  have hvisit : (s.walkEntry w).verdicts = s.verdicts := by rw [State.walkEntry_eq]
  refine Eq.trans ?_ hvisit
  unfold State.advanceWalk
  split
  · rfl
  · exact State.verdicts_completeWalk _ w

/-- The walker's step. -/
theorem State.arbitrated_walkerStep (s : State) : s.arbitrated .walker s.walkerStep := by
  unfold State.walkerStep
  refine ⟨fun hg => if_neg (by rw [hg]; decide), fun hg _ => ?_⟩
  rw [if_pos hg]
  split
  · exact .inr rfl
  · exact .inl (State.verdicts_walkStep _ _)

/-- An answered lookup leaves the Verdict Unit. -/
theorem State.verdicts_answerLookup (s : State) (p : Port) (b : Binding) : (s.answerLookup p b).verdicts = s.verdicts := by
  unfold State.answerLookup State.countIf
  dsimp only
  split <;> rfl

/-- The pass-start lookup's step. -/
theorem State.arbitrated_lookupPassStart (s : State) : s.arbitrated .overlay s.lookupPassStart := by
  unfold State.lookupPassStart
  refine ⟨fun hg => if_neg (by rw [hg]; decide), fun hg _ => ?_⟩
  rw [if_pos hg]
  split
  · exact .inr rfl
  · split
    · exact .inr rfl
    · exact .inl (State.verdicts_answerLookup _ _ _)

/-- The steps of the Verdict Unit wait for its grant. -/
theorem State.arbitrated_verdictSteps (s : State) :
    s.arbitrated .verdict s.learningStep ∧ s.arbitrated .verdict s.choosingStep ∧ s.arbitrated .verdict s.lookupStep := by
  have hrests (f : State) : s.granted .verdict = false → (if s.granted .verdict = true then f else s) = s :=
    fun hg => if_neg (by rw [hg]; decide)
  exact ⟨⟨hrests _, fun _ h => absurd rfl h⟩, ⟨hrests _, fun _ h => absurd rfl h⟩, ⟨hrests _, fun _ h => absurd rfl h⟩⟩

/-- Settles O36: the grant is `State.granted_iff`, and each row is arbitrated for its requester. -/
theorem arbiterGrantsHighestClass : Obligations.ArbiterGrantsHighestClass := by
  refine ⟨State.granted_iff, fun s x hx => ?_⟩
  have hrow : ∃ t, exec x.1 s = .next t ∧ s.arbitrated x.2 t := by
    obtain ⟨hlearning, hchoosing, hlookup⟩ := s.arbitrated_verdictSteps
    simp only [List.mem_cons, List.not_mem_nil, or_false] at hx
    rcases hx with rfl | rfl | rfl | rfl | rfl | rfl | rfl | rfl | rfl | rfl
    · exact ⟨_, rfl, hlearning⟩
    · exact ⟨_, rfl, hchoosing⟩
    · exact ⟨_, rfl, hlookup⟩
    · exact ⟨_, rfl, s.arbitrated_lookupPassStart⟩
    · exact ⟨_, rfl, State.arbitrated_commandStep State.verdicts_pinStepBody s _⟩
    · exact ⟨_, rfl, State.arbitrated_commandStep State.verdicts_unpinStepBody s _⟩
    · exact ⟨_, rfl, State.arbitrated_commandStep State.verdicts_readRouteStepBody s _⟩
    · exact ⟨_, rfl, State.arbitrated_commandStep State.verdicts_readWantedStepBody s _⟩
    · exact ⟨_, rfl, State.arbitrated_commandStep State.verdicts_releaseWantedStepBody s _⟩
    · exact ⟨_, rfl, s.arbitrated_walkerStep⟩
  obtain ⟨t, ht, hrests, hsteps⟩ := hrow
  refine ⟨fun hg => ht.trans (congrArg Host.Outcome.next (hrests hg)), fun hg => ⟨t, ht, fun hr l m p i first hwork => ?_⟩⟩
  refine (hsteps hg hr).imp_left fun hverdicts => ?_
  rw [hverdicts]
  exact State.afterOtherStep_choosing hwork

end Sys2Proof.Machine
end

section
/-! PROOFS. The hold limit and the pass-start lookup (O32, O39). -/

namespace Sys2Proof.Machine

variable {s t : State}

/-! ### A landing held too long -/

/-- The hold limit of a held landing (R60). -/
theorem State.landingHoldExpiry_eq {a : WordAddr} {d : Word} {be : Enables} {n : LinkName}
    (h : s.bus.held = some (.landing a d be n)) :
    s.landingHoldExpiry =
      { s with
        mem := s.mem.writeWord a (withVerdictByte d (verdictByte .late 0 (s.staleFlag n))) be
        bus := { s.bus with held := none }, verdicts := s.unholdLandings.verdicts
        counters := countedAt s.counters 7, events := s.events.put 6 { s.events.at 6 with pending := true } } := by
  unfold State.landingHoldExpiry
  rw [h]
  dsimp only
  rw [State.releaseLanding_held h]
  rfl

/-! ### Binding a pass -/

/-- The sent link, in the words of the statements (R142). -/
theorem State.sentLinkOf_eq (s : State) (t : Treatment) (receiver : Node) (p : Port) :
    s.sentLinkOf t receiver p = s.sentLinkFor t receiver p := by
  unfold State.sentLinkOf State.sentLinkFor
  have hnode : notANode receiver = false ↔ receiver ≠ 0 ∧ receiver ≠ 0xFFFF#16 := by
    simp only [notANode, broadcast, Bool.or_eq_false_iff, beq_eq_false_iff_ne]
  by_cases h : t = .uncaptured ∨ receiver = 0 ∨ receiver = 0xFFFF#16 ∨ receiver = s.identity.ownNode
  · rw [if_pos h, if_neg]
    rintro ⟨ht, hn, hown⟩
    obtain ⟨h0, hb⟩ := hnode.1 hn
    rcases h with h | h | h | h
    · exact ht h
    · exact h0 h
    · exact hb h
    · exact hown h
  · simp only [not_or] at h
    obtain ⟨ht, h0, hb, hown⟩ := h
    rw [if_pos ⟨ht, hnode.2 ⟨h0, hb⟩, hown⟩, if_neg]
    rintro (h | h | h | h)
    · exact ht h
    · exact h0 h
    · exact hb h
    · exact hown h

/-- A held read is released with a binding (R23, R140, R142). -/
theorem State.bindPass_releaseRead (s : State) (p : Port) {b : Binding} {k : SlotNo} {tr : Treatment} (hk : b.slot = k)
    (htr : b.treatment = tr) :
    (s.bindPass p b).releaseRead (s.word2 b.receiver) =
      { s with
        bus := { s.bus with held := none, readData := s.identity.ownNode ++ b.receiver }
        slots := s.slots.set k.val { s.slot k with sentLink := s.sentLinkFor tr b.receiver p }
        overlay := { s.overlay with bindings := s.overlay.bindings.set p.val (some b) } } := by
  subst hk htr
  rw [← State.sentLinkOf_eq]
  rfl

/-- The treatment of the fallback binding. -/
theorem Binding.lateBinding_treatment (b : Binding) : b.lateBinding.treatment = b.treatment := by
  unfold Binding.lateBinding
  split <;> rfl

/-- The fallback of unicast data (R141). -/
theorem Binding.lateBinding_unicast {b : Binding} (h : b.treatment = .unicastData) :
    b.lateBinding = { b with how := .fallback, receiver := b.fallbackReceiver } := if_pos h

/-- The fallback of a notice (R141). -/
theorem Binding.lateBinding_notice {b : Binding} (h : b.treatment ≠ .unicastData) :
    b.lateBinding = { b with how := .fallback, stamp := some 65535 } := if_neg h

/-- A fallback binding is marked so. -/
theorem Binding.lateBinding_fallback (b : Binding) : b.lateBinding.how = .fallback := by
  unfold Binding.lateBinding
  split <;> rfl

/-- The hold limit of a held word-2 read (R141). -/
theorem State.passStartHoldExpiry_eq {a : WordAddr} {p : Port} {b : Binding} (h : s.bus.held = some (.passStart a p))
    (hb : s.binding p = some b) :
    s.passStartHoldExpiry =
      { s with
        bus := { s.bus with held := none, readData := s.identity.ownNode ++ b.lateBinding.receiver }
        slots := s.slots.set b.slot.val
          { s.slot b.slot with sentLink := s.sentLinkFor b.treatment b.lateBinding.receiver p }
        overlay := { s.overlay with bindings := s.overlay.bindings.set p.val (some b.lateBinding) }
        counters := countedAt s.counters 8 } := by
  unfold State.passStartHoldExpiry
  rw [h]
  dsimp only
  rw [hb]
  dsimp only
  rw [State.bindPass_releaseRead s p b.lateBinding_slot b.lateBinding_treatment]
  rfl

/-- Settles O32: the two expiries by their equations. -/
theorem holdLimitExpiries : Obligations.HoldLimitExpiries := by
  refine ⟨fun a d be n s h => ?landing, fun a p b s h hb => ?passStart⟩
  case landing =>
    refine ⟨_, congrArg Host.Outcome.next (State.landingHoldExpiry_eq h), rfl, rfl, rfl, rfl, rfl, ?_, fun l hl => ?_, rfl,
      rfl, rfl⟩
    · show ((s.verdicts.work.map _).map _) = _
      rw [Option.map_map]
      rfl
    · have hmem : l ∈ s.unholdLandings.landings := hl
      rw [State.unholdLandings_landings] at hmem
      obtain ⟨l', -, rfl⟩ := List.mem_map.1 hmem
      rfl
  case passStart =>
    refine ⟨_, b.lateBinding, congrArg Host.Outcome.next (State.passStartHoldExpiry_eq h hb), Vector.getElem_set_self _,
      b.lateBinding_fallback, fun ht => ?_, fun ht => ?_, rfl, rfl, rfl, rfl, rfl, rfl⟩
    · rw [Binding.lateBinding_unicast ht]
      rfl
    · rw [Binding.lateBinding_notice ht]
      exact ⟨rfl, rfl⟩

/-! ### The pass-start lookup -/

/-- The primary that a lookup finds (R111). -/
theorem State.lookupEntry_primary (s : State) (d : Node) :
    (s.lookupEntry d).primary = (s.findRoute d).bind fun i => (s.route i).primary := by
  unfold State.lookupEntry
  cases s.findRoute d <;> rfl

/-- The alternate that a lookup finds (R111). -/
theorem State.lookupEntry_alternate (s : State) (d : Node) :
    (s.lookupEntry d).alternate = (s.findRoute d).bind fun i => (s.route i).alternate := by
  unfold State.lookupEntry
  cases s.findRoute d <;> rfl

/-- The node of a choice that is LIVE on a port (R140). -/
theorem State.nodeOnPort_eq_some (s : State) (c : Option Choice) (p : Port) (n : Node) :
    s.nodeOnPort c p = some n ↔ s.usableOn c p n := by
  unfold State.nodeOnPort State.usableOn
  cases c with
  | none => simp
  | some x => simp only [State.isLive_iff, Option.ite_none_right_eq_some, Option.some.injEq, exists_eq_left', and_assoc]

/-- A choice that is not LIVE on a port gives no node. -/
theorem State.nodeOnPort_eq_none {c : Option Choice} {p : Port} (h : ∀ n, ¬s.usableOn c p n) : s.nodeOnPort c p = none :=
  Option.eq_none_iff_forall_ne_some.2 fun n hn => h n ((s.nodeOnPort_eq_some c p n).1 hn)

/-- The entry that a pass's lookup answers from (R139). -/
def State.answerEntry (s : State) (b : Binding) : RouteEntry :=
  s.lookupEntry (lookupDest b.treatment (s.slot b.slot).words)

/-- The answer for unicast data over the primary (R140). -/
theorem State.answeredBinding_primary {p : Port} {b : Binding} {n : Node} (ht : b.treatment = .unicastData)
    (h : s.usableOn (s.answerEntry b).primary p n) :
    s.answeredBinding p b = ({ b with how := .answered, receiver := n }, false) := by
  unfold State.answeredBinding
  dsimp only
  rw [if_pos ht,
    show s.nodeOnPort (s.lookupEntry (lookupDest b.treatment (s.slot b.slot).words)).primary p = some n from
      (s.nodeOnPort_eq_some _ p n).2 h]

/-- The answer for unicast data over the alternate (R140). -/
theorem State.answeredBinding_alternate {p : Port} {b : Binding} {n : Node} (ht : b.treatment = .unicastData)
    (hno : ∀ n, ¬s.usableOn (s.answerEntry b).primary p n) (h : s.usableOn (s.answerEntry b).alternate p n) :
    s.answeredBinding p b = ({ b with how := .answered, receiver := n }, false) := by
  unfold State.answeredBinding
  dsimp only
  rw [if_pos ht,
    show s.nodeOnPort (s.lookupEntry (lookupDest b.treatment (s.slot b.slot).words)).primary p = none from
      State.nodeOnPort_eq_none hno]
  dsimp only
  rw [show s.nodeOnPort (s.lookupEntry (lookupDest b.treatment (s.slot b.slot).words)).alternate p = some n from
    (s.nodeOnPort_eq_some _ p n).2 h]

/-- The answer for unicast data without a usable route: a stale send (R140). -/
theorem State.answeredBinding_stale {p : Port} {b : Binding} (ht : b.treatment = .unicastData)
    (hno : ∀ n, ¬s.usableOn (s.answerEntry b).primary p n) (hno' : ∀ n, ¬s.usableOn (s.answerEntry b).alternate p n) :
    s.answeredBinding p b = ({ b with how := .answered, receiver := b.fallbackReceiver }, true) := by
  unfold State.answeredBinding
  dsimp only
  rw [if_pos ht,
    show s.nodeOnPort (s.lookupEntry (lookupDest b.treatment (s.slot b.slot).words)).primary p = none from
      State.nodeOnPort_eq_none hno]
  dsimp only
  rw [show s.nodeOnPort (s.lookupEntry (lookupDest b.treatment (s.slot b.slot).words)).alternate p = none from
    State.nodeOnPort_eq_none hno']

/-- The answer for a notice (R140). -/
theorem State.answeredBinding_notice {p : Port} {b : Binding} (ht : b.treatment ≠ .unicastData) :
    s.answeredBinding p b = ({ b with how := .answered, stamp := some (s.relayStamp (s.answerEntry b)) }, false) := by
  unfold State.answeredBinding
  exact if_neg ht

/-- An answer keeps the slot and the treatment. -/
theorem State.answeredBinding_kept (s : State) (p : Port) (b : Binding) :
    let b' := (s.answeredBinding p b).1
    b'.slot = b.slot ∧ b'.treatment = b.treatment ∧ b'.how = .answered := by
  unfold State.answeredBinding
  dsimp only
  split
  · split
    · exact ⟨rfl, rfl, rfl⟩
    · split <;> exact ⟨rfl, rfl, rfl⟩
  · exact ⟨rfl, rfl, rfl⟩

/-- The stamp over a LIVE primary (R140). -/
theorem State.relayStamp_live {e : RouteEntry} {c : Choice} (h : e.primary = some c) (hl : (s.link c.link).state = .live) :
    s.relayStamp e = c.total := by
  unfold State.relayStamp
  rw [h]
  exact if_pos (State.isLive_iff.2 hl)

/-- The stamp without a LIVE primary (R140). -/
theorem State.relayStamp_none {e : RouteEntry} (h : ∀ c, e.primary = some c → (s.link c.link).state ≠ .live) :
    s.relayStamp e = 65535 := by
  unfold State.relayStamp
  cases hp : e.primary with
  | none => rfl
  | some c => exact if_neg fun hl => h c hp (State.isLive_iff.1 hl)

/-- An answered lookup (R111, R140, R142). -/
theorem State.answerLookup_eq (s : State) (p : Port) (b : Binding) :
    let r := s.answeredBinding p b
    s.answerLookup p b =
      { s with
        bus := { s.bus with held := none, readData := s.identity.ownNode ++ r.1.receiver }
        slots := s.slots.set b.slot.val
          { s.slot b.slot with sentLink := s.sentLinkFor b.treatment r.1.receiver p }
        overlay := { s.overlay with bindings := s.overlay.bindings.set p.val (some r.1) }
        counters := if r.2 = true then countedAt s.counters 9 else s.counters } := by
  intro r
  obtain ⟨hslot, htreatment, -⟩ := s.answeredBinding_kept p b
  unfold State.answerLookup
  dsimp only
  rw [State.bindPass_releaseRead s p hslot htreatment, State.countIf]
  split <;> rfl

/-- The lookup that is waited for, when it is granted (R99, R111). -/
theorem State.lookupPassStart_granted {p : Port} {b : Binding} (hg : s.granted .overlay = true)
    (hb : s.binding p = some b) (hhow : b.how = .awaiting) (hother : ∀ q, q ≠ p → s.awaitsLookup q = false) :
    s.lookupPassStart = s.afterOtherStep.answerLookup p b := by
  have hfind : (List.finRange 3).find? s.awaitsLookup = some p :=
    find?_finRange_eq_some.2 ⟨(s.awaitsLookup_iff p).2 ⟨b, hb, hhow⟩, fun q hq => hother q (Fin.ne_of_lt hq)⟩
  unfold State.lookupPassStart
  rw [if_pos hg, hfind]
  dsimp only
  rw [hb]

/-- Settles O39: the answer by what the lookup finds. -/
theorem passStartLookupBinds : Obligations.PassStartLookupBinds := by
  intro p b s hg hb hhow hother h d primary alternate fallback
  have ht := State.lookupPassStart_granted hg hb hhow hother
  rw [State.answerLookup_eq] at ht
  obtain ⟨hslot, -, hanswered⟩ := s.afterOtherStep.answeredBinding_kept p b
  have hprimary : (s.afterOtherStep.answerEntry b).primary = primary := s.lookupEntry_primary _
  have halternate : (s.afterOtherStep.answerEntry b).alternate = alternate := s.lookupEntry_alternate _
  refine ⟨_, (s.afterOtherStep.answeredBinding p b).1, congrArg Host.Outcome.next ht, Vector.getElem_set_self _, hanswered,
    hslot, rfl, rfl, rfl, rfl, rfl, rfl, fun hu => ⟨fun n hn => ?primary, fun hno n hn => ?alternate, fun hno hno' => ?stale⟩,
    fun hu => ⟨?receiver, ?counters, fun c hc hl => ?live, fun hno => ?unreachable⟩⟩
  case primary =>
    rw [State.answeredBinding_primary hu (hprimary ▸ hn)]
    exact ⟨rfl, rfl⟩
  case alternate =>
    rw [State.answeredBinding_alternate hu (hprimary ▸ hno) (halternate ▸ hn)]
    exact ⟨rfl, rfl⟩
  case stale =>
    rw [State.answeredBinding_stale hu (hprimary ▸ hno) (halternate ▸ hno')]
    exact ⟨rfl, rfl⟩
  case receiver => rw [State.answeredBinding_notice hu]
  case counters =>
    rw [State.answeredBinding_notice hu]
    rfl
  case live =>
    rw [State.answeredBinding_notice hu, State.relayStamp_live (s := s.afterOtherStep) (hprimary.trans hc) hl]
  case unreachable =>
    rw [State.answeredBinding_notice hu, State.relayStamp_none (s := s.afterOtherStep) fun c hc => hno c (hprimary.symm.trans hc)]

end Sys2Proof.Machine
end

section
/-! PROOFS. Words supplied on transmit reads (O40). -/

namespace Sys2Proof.Machine

variable {s t : State}

/-! ### Words of a frame captured whole -/

/-- All four bytes taken from the captured word. -/
theorem mergeBytes_whole (old new : Word) : mergeBytes 0xF#4 old new = new := by
  refine BitVec.eq_of_getLsbD_eq fun n hn => ?_
  have hall : ∀ i < 4, (0xF#4).getLsbD i = true := by decide
  rw [mergeBytes_getLsbD _ _ _ hn, hall (n / 8) (by omega), if_pos rfl]

/-- The base value of a word captured whole is the captured word (R136). -/
theorem State.baseWord_whole {r : SlotRecord} {w : HeaderIx} (h : r.marks[w.val] = 0xF#4) (a : WordAddr) :
    s.baseWord r w a = r.words[w.val] := by
  rw [State.baseWord, h, mergeBytes_whole]

/-- A word is its halves. -/
theorem halves_append (x : Word) : x.extractLsb' 16 16 ++ x.extractLsb' 0 16 = x := by
  refine BitVec.eq_of_getLsbD_eq fun n hn => ?_
  simp only [BitVec.getLsbD_append, BitVec.getLsbD_extractLsb']
  split
  next h => simp [h]
  next h => simp [show n - 16 < 16 by omega, show 16 + (n - 16) = n by omega]

/-- A budget byte put into a word (R143). -/
theorem budgeted_eq (x : Word) {n : Nat} (h : n < 256) :
    (x &&& 0xFF00FFFF#32) ||| place 16 n = x.extractLsb' 24 8 ++ BitVec.ofNat 8 n ++ x.extractLsb' 0 16 := by
  refine BitVec.eq_of_getLsbD_eq fun i hi => ?_
  have hmask : ∀ j < 32, (0xFF00FFFF#32).getLsbD j = !decide (16 ≤ j ∧ j < 24) := by decide
  have hhigh (k : Nat) (hk : 8 ≤ k) : n.testBit k = false :=
    Nat.testBit_lt_two_pow (Nat.lt_of_lt_of_le h (Nat.pow_le_pow_right (n := 2) (by decide) hk))
  simp only [place, BitVec.getLsbD_append, BitVec.getLsbD_extractLsb', BitVec.getLsbD_or, BitVec.getLsbD_and,
    BitVec.getLsbD_shiftLeft, BitVec.getLsbD_ofNat, hmask i hi]
  rcases (by omega : i < 16 ∨ (16 ≤ i ∧ i - 16 < 8) ∨ (16 ≤ i ∧ 8 ≤ i - 16)) with hlow | ⟨hmiddle, hbyte⟩ | ⟨hmiddle, htop⟩
  · simp [hlow, hi]
  · simp [hi, hbyte, Nat.not_lt.2 hmiddle, show i < 24 by omega, hmiddle, show i - 16 < 32 by omega]
  · simp [hi, hhigh _ htop, Nat.not_lt.2 hmiddle, Nat.not_lt.2 htop, show ¬i < 24 by omega, show i - 16 - 8 < 8 by omega,
      show 24 + (i - 16 - 8) = i by omega]

/-- A sequence put into a word (R143). -/
theorem sequenced_eq (x : Word) (q : Half) : (x &&& 0xFFFF0000#32) ||| q.zeroExtend 32 = x.extractLsb' 16 16 ++ q := by
  refine BitVec.eq_of_getLsbD_eq fun i hi => ?_
  have hmask : ∀ j < 32, (0xFFFF0000#32).getLsbD j = decide (16 ≤ j) := by decide
  simp only [BitVec.getLsbD_append, BitVec.getLsbD_extractLsb', BitVec.getLsbD_or, BitVec.getLsbD_and,
    BitVec.getLsbD_setWidth, hmask i hi]
  by_cases hlow : i < 16
  · simp [hlow, hi, Nat.not_le.2 hlow]
  · simp [hlow, Nat.not_lt.1 hlow, show i - 16 < 16 by omega, show 16 + (i - 16) = i by omega]

/-- The upper half of a word of two bytes and a half. -/
theorem upper_append (x y : Byte) (q : Half) : (x ++ y ++ q).extractLsb' 16 16 = x ++ y := by
  refine BitVec.eq_of_getLsbD_eq fun i hi => ?_
  rw [BitVec.getLsbD_extractLsb', BitVec.getLsbD_append, if_neg (by omega), Nat.add_sub_cancel_left, decide_eq_true hi,
    Bool.true_and]

/-- The budget supplied is a byte. -/
theorem SlotRecord.suppliedBudget_lt (r : SlotRecord) : r.suppliedBudget < 256 := by
  have h : hdrBudget r.words < 256 := numField_lt r.words[1] 16 8
  unfold SlotRecord.suppliedBudget
  split
  · exact h
  · exact Nat.lt_of_le_of_lt (Nat.sub_le _ _) h

/-- Word 3 of a captured frame (R143). -/
theorem suppliedWord3_eq {b : Binding} (h : b.treatment ≠ .uncaptured) (r : SlotRecord) (x : Word) :
    suppliedWord3 b r x =
      x.extractLsb' 24 8 ++ BitVec.ofNat 8 r.suppliedBudget ++ b.ownSeq.getD (x.extractLsb' 0 16) := by
  unfold suppliedWord3
  rw [if_neg h, budgeted_eq x r.suppliedBudget_lt]
  cases b.ownSeq with
  | none => rfl
  | some q =>
    dsimp only
    rw [sequenced_eq, upper_append]
    rfl

/-- Word 5 of a captured frame (R145). -/
theorem suppliedWord5_eq (cfg : Settings) (b : Binding) (x : Word) :
    suppliedWord5 cfg b x =
      (if b.treatment = .ownNotice ∨ b.treatment = .relayedNotice then BitVec.ofNat 16 (b.stamp.getD 65535)
        else x.extractLsb' 16 16) ++
      (if b.treatment = .ownHello then BitVec.ofNat 16 (cfg.sampleInterval / 10) else x.extractLsb' 0 16) := by
  unfold suppliedWord5
  cases b.treatment
  case ownNotice | relayedNotice => rfl
  case ownHello => rfl
  all_goals exact (halves_append x).symm

/-- An uncaptured frame's word 5 is its base word (R145). -/
theorem suppliedWord5_uncaptured (cfg : Settings) {b : Binding} (h : b.treatment = .uncaptured) (x : Word) :
    suppliedWord5 cfg b x = x := by
  unfold suppliedWord5
  rw [h]

/-- The address of a header word from its own address. -/
theorem headerAddr_self (a : WordAddr) (w : HeaderIx) : headerAddr a w w = a := BitVec.sub_add_cancel _ _

/-- An uncaptured frame is supplied from its base bytes (R136). -/
theorem State.suppliedWord_uncaptured {b : Binding} (h : b.treatment = .uncaptured) (r : SlotRecord) {w : HeaderIx}
    (hw : w ≠ 0) (a : WordAddr) : s.suppliedWord b r w a = s.baseWord r w a := by
  unfold State.suppliedWord suppliedWord3 State.suppliedWord6
  simp only [suppliedWord5_uncaptured s.settings h, if_pos h]
  match w with
  | 0 => exact absurd rfl hw
  | 1 | 2 | 3 | 4 => exact congrArg (s.baseWord r _) (headerAddr_self a _)

/-- The header words that a port reads after word 2 of a frame captured whole (R143 to R146). -/
theorem State.suppliedWord_whole {b : Binding} (h : b.treatment ≠ .uncaptured) {r : SlotRecord}
    (hmarks : ∀ v : HeaderIx, r.marks[v.val] = 0xF#4) {w : HeaderIx} (hw : w ≠ 0) (a : WordAddr) :
    let w3 := r.words[1].extractLsb' 24 8 ++ BitVec.ofNat 8 r.suppliedBudget ++ b.ownSeq.getD (hdrSequence r.words)
    let w5 :=
      (if b.treatment = .ownNotice ∨ b.treatment = .relayedNotice then BitVec.ofNat 16 (b.stamp.getD 65535)
        else r.words[3].extractLsb' 16 16) ++
      (if b.treatment = .ownHello then BitVec.ofNat 16 (s.settings.sampleInterval / 10)
        else r.words[3].extractLsb' 0 16)
    s.suppliedWord b r w a =
      match w.val with
      | 1 => w3
      | 2 => r.words[2]
      | 3 => w5
      | _ => r.words[4].extractLsb' 16 16 ++ headerCheck s.identity.realmSeed w3 r.words[2] w5 r.words[4] := by
  intro w3 w5
  have hbase (i : HeaderIx) (x : WordAddr) : s.baseWord r i x = r.words[i.val] := State.baseWord_whole (hmarks i) x
  have h3 : suppliedWord3 b r r.words[(1 : HeaderIx).val] = w3 := suppliedWord3_eq h r _
  have h5 : suppliedWord5 s.settings b r.words[(3 : HeaderIx).val] = w5 := suppliedWord5_eq _ b _
  unfold State.suppliedWord State.suppliedWord6
  simp only [hbase, h3, h5, if_neg h]
  clear_value w3 w5
  match w with
  | 0 => exact absurd rfl hw
  | 1 | 2 | 3 | 4 => rfl

/-! ### The read -/

/-- The pass port's read of words 3 to 6 (R18). -/
theorem exec_transmitWordRead {a : ReadAccess} {p : Port} {k : SlotNo} {w : HeaderIx} (hw : w ≠ 0)
    (h : s.meshAt a.initiator a.addr p k (w.val + 2)) (hst : (s.slot k).state = .inSend)
    (hport : (s.slot k).passPort = some p) :
    exec (.transmitWordRead a) s = .next (s.readPassWord p k w a.addr) := by
  have hrow : Instr.transmitWordRead a ∈ slotReadRows a := by simp [slotReadRows]
  rw [exec_slotReadRow hrow, State.onPort_free h.1.1, State.performRead, State.readClass_mesh h, State.meshReadClass,
    headerIx_of]
  dsimp only
  rw [if_neg hw, if_pos ⟨hst, hport⟩]

/-- Settles O40: the word supplied is one word whatever the read does to the pass. -/
theorem passPortReadsWords : Obligations.PassPortReadsWords := by
  intro a p k w b s hw hmesh hst hport hb r
  have ht := exec_transmitWordRead hw hmesh hst hport
  unfold State.readPassWord at ht
  dsimp only at ht
  rw [hb] at ht
  dsimp only at ht
  refine ⟨s.suppliedWord b r w a.addr, fun h => ?continues, fun h => ?ends, fun hu => ?uncaptured, fun hu hmarks => ?whole⟩
  case continues => exact ht.trans (congrArg Host.Outcome.next (if_neg h))
  case ends => exact ht.trans (congrArg Host.Outcome.next (if_pos h))
  case uncaptured => exact State.suppliedWord_uncaptured hu r hw a.addr
  case whole => exact State.suppliedWord_whole hu hmarks hw a.addr

end Sys2Proof.Machine
end

section
/-! PROOFS. Transmit passes begin and supersede (O37, O38). -/

namespace Sys2Proof.Machine

variable {s t u : State}

/-! ### Treatments -/

/-- All marks set, in the words of the statements. -/
theorem allComplete_iff (marks : HeaderMarks) : allComplete marks = true ↔ ∀ w : HeaderIx, marks[w.val] = 0xF#4 := by
  simp only [allComplete, headerComplete, Bool.and_eq_true, beq_iff_eq]
  constructor
  · rintro ⟨⟨⟨⟨h0, h1⟩, h2⟩, h3⟩, h4⟩ w
    match w with
    | 0 => exact h0
    | 1 => exact h1
    | 2 => exact h2
    | 3 => exact h3
    | 4 => exact h4
  · exact fun h => ⟨⟨⟨⟨h 0, h 1⟩, h 2⟩, h 3⟩, h 4⟩

/-- Table 1 of chapter 8 gives each record one treatment (R137). -/
theorem State.treatmentOf_eq {r : SlotRecord} {tr : Treatment} (h : s.treatmentIs r tr) : s.treatmentOf r = tr := by
  obtain ⟨huncaptured, hwhole⟩ := h
  unfold State.treatmentOf
  by_cases hmarks : ∀ w : HeaderIx, r.marks[w.val] = 0xF#4
  · obtain ⟨hunicast, hbroadcast, hhello, hnotice, hrelayed, hother⟩ := hwhole hmarks
    rw [(allComplete_iff r.marks).2 hmarks, Bool.not_true, if_neg (by decide)]
    by_cases h0 : hdrKind r.words = 0
    · rw [if_pos h0]
      split
      next hb => exact (hbroadcast h0 hb).symm
      next hb => exact (hunicast h0 hb).symm
    · rw [if_neg h0]
      by_cases h1 : hdrKind r.words = 1
      · by_cases hown : hdrOrigin r.words = s.identity.ownNode
        · rw [if_pos ⟨h1, hown⟩, hhello h1 hown]
        · rw [if_neg fun h => hown h.2, if_neg (by omega), hother (.inl ⟨h1, hown⟩)]
      · rw [if_neg fun h => h1 h.1]
        by_cases h2 : hdrKind r.words = 2
        · rw [if_pos h2]
          split
          next hown => exact (hnotice h2 hown).symm
          next hown => exact (hrelayed h2 hown).symm
        · rw [if_neg h2, hother (.inr (by omega))]
  · have hclear : ∃ w : HeaderIx, r.marks[w.val] ≠ 0xF#4 := Classical.not_forall.1 hmarks
    have hfalse : allComplete r.marks = false := Bool.eq_false_iff.2 fun h => hmarks ((allComplete_iff r.marks).1 h)
    rw [hfalse, Bool.not_false, if_pos rfl, huncaptured hclear]

/-- The passes that need a lookup (R139). -/
theorem needsLookup_iff (tr : Treatment) (forwarding : Bool) :
    needsLookup tr forwarding = true ↔ (tr = .unicastData ∧ forwarding = true) ∨ tr = .relayedNotice := by
  cases tr <;> simp [needsLookup]

/-! ### The pass that begins -/

/-- A record as its transmit pass begins (R16, R142). -/
def SlotRecord.begun (r : SlotRecord) (p : Port) (sent : Option LinkName) : SlotRecord :=
  { r with state := .inSend, passPort := some p, progress := 0, deadline := none, sentLink := sent }

/-- The binding of a pass that begins, after its own sequence has advanced (R135, R137 to R139, R144). -/
def State.begunBinding (s : State) (k : SlotNo) (tr : Treatment) (receiver : Node) : Binding :=
  { slot := k, treatment := tr, forwarding := s.engine.state == .forwarding
    how := if needsLookup tr (s.engine.state == .forwarding) = true then .awaiting else .noLookup
    receiver := receiver, stamp := if tr = .ownNotice then some 0 else none
    ownSeq :=
      if tr = .ownHello then some (s.overlay.helloSeq + 1)
      else if tr = .ownNotice then some (s.overlay.noticeSeq + 1) else none
    verdictLink := (s.slot k).verdictLink }

/-- The overlay after a pass began (R140, R144). -/
def State.begunOverlay (s : State) (p : Port) (b : Binding) : Overlay :=
  { bindings := s.overlay.bindings.set p.val (some b)
    helloSeq := s.overlay.helloSeq + (if b.treatment = .ownHello then 1 else 0)
    noticeSeq := s.overlay.noticeSeq + (if b.treatment = .ownNotice then 1 else 0) }

/-- The own sequence of a pass advances with its frame (R144). -/
theorem State.advanceSequence_overlay (s : State) (tr : Treatment) :
    (s.advanceSequence tr).overlay =
      { s.overlay with
        helloSeq := s.overlay.helloSeq + (if tr = .ownHello then 1 else 0)
        noticeSeq := s.overlay.noticeSeq + (if tr = .ownNotice then 1 else 0) } := by
  cases tr <;> simp [State.advanceSequence]

/-- The binding made as a pass begins, in one record. -/
theorem State.newBinding_eq (s : State) (k : SlotNo) (r : SlotRecord) (tr : Treatment) (receiver : Node)
    (h : r.verdictLink = (s.slot k).verdictLink) :
    ((s.setSlot k r).advanceSequence tr).newBinding k tr receiver = s.begunBinding k tr receiver := by
  unfold State.newBinding State.begunBinding
  have hslot : ((s.setSlot k r).advanceSequence tr).slot k = r := by
    rw [State.advanceSequence_eq]
    exact State.slot_setSlot_same s k r
  have hengine : ((s.setSlot k r).advanceSequence tr).engine = s.engine := by
    rw [State.advanceSequence_eq]
    rfl
  have hseq : ((s.setSlot k r).advanceSequence tr).ownSequence tr =
      if tr = .ownHello then some (s.overlay.helloSeq + 1)
      else if tr = .ownNotice then some (s.overlay.noticeSeq + 1) else none := by
    cases tr <;> rfl
  rw [hslot, hengine, hseq, h]

/-- What the pass needs of the word that is read: the receiver of its base value (R136, R142). -/
def State.baseReceiver (s : State) (k : SlotNo) (a : WordAddr) : Node :=
  loHalf (mergeBytes (s.slot k).marks[0] (s.mem.readWord a) (s.slot k).words[0])

/-- The state in which a pass's binding is made: the record is IN_SEND, the own sequence advanced (R16, R144). -/
def State.sending (u : State) (p : Port) (k : SlotNo) (tr : Treatment) : State :=
  (u.setSlot k ((u.slot k).begun p none)).advanceSequence tr

/-- What the pass's first acts change. -/
theorem State.sending_eq (u : State) (p : Port) (k : SlotNo) (tr : Treatment) :
    u.sending p k tr =
      { u with
        slots := u.slots.set k.val ((u.slot k).begun p none)
        overlay :=
          { u.overlay with
            helloSeq := u.overlay.helloSeq + (if tr = .ownHello then 1 else 0)
            noticeSeq := u.overlay.noticeSeq + (if tr = .ownNotice then 1 else 0) } } := by
  unfold State.sending
  rw [State.advanceSequence_eq, State.advanceSequence_overlay]
  rfl

/-- A transmit pass begins with its binding, in the state that the end of the older passes leaves (R16). -/
theorem State.beginPass_from {p : Port} {k : SlotNo} {tr : Treatment} (hu : (s.endForSend k).supersedeOther p k = u)
    (htr : u.treatmentOf (u.slot k) = tr) (a : WordAddr) :
    let b := u.begunBinding k tr (u.baseReceiver k a)
    s.beginPass p k a =
      if b.how = .awaiting then
        State.setBinding
          { u.sending p k tr with bus := { (u.sending p k tr).bus with held := some (.passStart a p) } } p b
      else ((u.sending p k tr).bindPass p b).answer ((u.sending p k tr).word2 b.receiver) := by
  intro b
  have hb : (u.sending p k tr).newBinding k tr (u.baseReceiver k a) = b := u.newBinding_eq k _ tr _ rfl
  have hreceiver : loHalf ((u.sending p k tr).baseWord ((u.slot k).begun p none) 0 a) = u.baseReceiver k a := by
    rw [State.sending_eq]
    rfl
  rw [← hb, ← hreceiver]
  subst htr
  unfold State.beginPass
  dsimp only
  rw [hu]
  rfl

/-- The same in one record: with no lookup the word is supplied at once, else the read is held (R16, R22, R139, R142, R144). -/
theorem State.beginPass_eq {p : Port} {k : SlotNo} {tr : Treatment} (hu : (s.endForSend k).supersedeOther p k = u)
    (htr : u.treatmentOf (u.slot k) = tr) (a : WordAddr) :
    let b := u.begunBinding k tr (u.baseReceiver k a)
    let lookup := needsLookup tr (u.engine.state == .forwarding) = true
    s.beginPass p k a =
      { u with
        bus :=
          if lookup then { u.bus with held := some (.passStart a p) }
          else { u.bus with readData := u.identity.ownNode ++ u.baseReceiver k a }
        slots := u.slots.set k.val
          ((u.slot k).begun p (if lookup then none else u.sentLinkFor tr (u.baseReceiver k a) p))
        overlay := u.begunOverlay p b } := by
  intro b lookup
  rw [State.beginPass_from hu htr, State.sending_eq]
  by_cases h : lookup
  · have hhow : b.how = .awaiting := if_pos h
    rw [if_pos hhow, if_pos h, if_pos h]
    rfl
  · have hhow : b.how ≠ .awaiting := by
      rw [show b.how = .noLookup from if_neg h]
      decide
    rw [if_neg hhow, if_neg h, if_neg h, ← State.sentLinkOf_eq]
    have hslots : (u.slots.set k.val ((u.slot k).begun p none)).set k.val
        { (u.slots.set k.val ((u.slot k).begun p none))[k.val] with
          sentLink := u.sentLinkOf tr (u.baseReceiver k a) p } =
        u.slots.set k.val ((u.slot k).begun p (u.sentLinkOf tr (u.baseReceiver k a) p)) := by
      rw [Vector.getElem_set_self, Vector.set_set]
      rfl
    rw [← hslots]
    rfl

/-! ### The row -/

/-- A word-2 read of a slot that begins a pass (R16). -/
theorem exec_transmitPassStart {a : ReadAccess} {p : Port} {k : SlotNo} (h : s.meshAt a.initiator a.addr p k 2)
    (hst : (s.slot k).state.startsPass = true) :
    exec (.transmitPassStart a) s = .next (s.beginPass p k a.addr) := by
  have hrow : Instr.transmitPassStart a ∈ slotReadRows a := by simp [slotReadRows]
  have hix : headerIx 2 = some 0 := by decide
  rw [exec_slotReadRow hrow, State.onPort_free h.1.1, State.performRead, State.readClass_mesh h, State.meshReadClass, hix]
  dsimp only
  rw [if_pos rfl, if_pos hst]

/-- A word-2 read of a slot that begins no pass (R16). -/
theorem exec_transmitPassStart_none {a : ReadAccess} {p : Port} {k : SlotNo} (h : s.meshAt a.initiator a.addr p k 2)
    (hst : (s.slot k).state.startsPass = false) :
    exec (.transmitPassStart a) s = .next (s.readMem a.addr) := by
  have hrow : Instr.transmitPassStart a ∈ slotReadRows a := by simp [slotReadRows]
  have hix : headerIx 2 = some 0 := by decide
  rw [exec_slotReadRow hrow, State.onPort_free h.1.1, State.performRead, State.readClass_mesh h, State.meshReadClass, hix]
  dsimp only
  rw [if_pos rfl, hst]
  rfl

/-- Settles O37: nothing was under way, so that the pass begins in the state itself. -/
theorem transmitPassStarts : Obligations.TransmitPassStarts := by
  intro a p k s hmesh hst hother r tr htr receiver lookup
  have hstarts : (s.slot k).state.startsPass = true := by rcases hst with h | h <;> rw [h] <;> rfl
  have hend : s.endForSend k = s := by
    unfold State.endForSend
    rcases hst with h | h <;> simp only [h]
  have hnone : s.otherInSend p k = none := by
    cases hf : s.otherInSend p k with
    | none => rfl
    | some j =>
      obtain ⟨hj, hsend, hp⟩ := State.otherInSend_some hf
      exact absurd hp (hother j hj hsend)
  have ht := (exec_transmitPassStart hmesh hstarts).trans (congrArg Host.Outcome.next
    (State.beginPass_eq (by rw [hend, State.supersedeOther_none hnone]) (State.treatmentOf_eq htr) a.addr))
  have hlookup : needsLookup tr (s.engine.state == .forwarding) = true ↔ lookup := by
    rw [needsLookup_iff, beq_iff_eq]
  have hslot : ∀ x : SlotRecord, (s.slots.set k.val x)[k.val] = x := fun x => Vector.getElem_set_self _
  refine ⟨_, ht, rfl, rfl, rfl, fun j hj => Vector.getElem_set_ne k.isLt j.isLt fun h => hj (Fin.ext h.symm), rfl, rfl,
    ⟨_, Vector.getElem_set_self _, rfl, rfl, rfl, rfl, rfl, rfl, beq_iff_eq, fun h => if_pos (hlookup.2 h),
      fun h => if_neg (mt hlookup.1 h)⟩,
    fun q hq => Vector.getElem_set_ne p.isLt q.isLt fun h => hq (Fin.ext h.symm), ?slot, fun h => ⟨if_pos (hlookup.2 h), ?held⟩,
    fun h => ⟨if_neg (mt hlookup.1 h), ?sent⟩⟩
  case slot =>
    unfold State.slot
    rw [hslot]
    rfl
  case held =>
    unfold State.slot
    rw [hslot]
    exact if_pos (hlookup.2 h)
  case sent =>
    unfold State.slot
    rw [hslot]
    exact if_neg (mt hlookup.1 h)

/-! ### Passes superseded -/

/-- Where the ended work of a slot is counted when a transmit pass takes the slot (Table 5 of chapter 1). -/
def State.sentCounters (s : State) (k : SlotNo) : Vector Nat 16 :=
  match (s.slot k).state with
  | .awaitingOutcome => countedAt s.counters 10
  | .inSend => countedAt s.counters 14
  | _ => s.counters

/-- What a slot was doing ends, with its count (R16). -/
theorem State.endForSend_counters (s : State) (k : SlotNo) : (s.endForSend k).counters = s.sentCounters k := by
  unfold State.endForSend State.sentCounters
  cases h : (s.slot k).state with
  | inSend => cases hp : (s.slot k).passPort <;> simp only [h, hp] <;> rfl
  | _ => simp only [h] <;> rfl

/-- The end of the slot's work leaves the slots. -/
theorem State.endForSend_slots (s : State) (k : SlotNo) : (s.endForSend k).slots = s.slots := by
  rw [State.endForSend_eq]

/-- The search for another slot IN_SEND depends on the slots alone. -/
theorem State.otherInSend_congr (h : t.slots = s.slots) (p : Port) (k : SlotNo) :
    t.otherInSend p k = s.otherInSend p k := by
  unfold State.otherInSend State.slot
  rw [h]

/-- Superseding another pass drops no other port's binding (R17). -/
theorem State.binding_supersedeOther {p q : Port} (h : q ≠ p) (s : State) (k : SlotNo) :
    (s.supersedeOther p k).binding q = s.binding q := by
  unfold State.supersedeOther
  split
  · rfl
  · exact State.binding_dropBinding_other _ h

/-- In owned passes the search finds the slot that the port has IN_SEND (R17). -/
theorem State.passesOwned.otherInSend_eq (hs : s.passesOwned) {p : Port} {j k : SlotNo} (hj : j ≠ k)
    (h : (s.slot j).sentBy p) : s.otherInSend p k = some j := by
  cases hf : s.otherInSend p k with
  | none => exact absurd h (State.otherInSend_none hf hj)
  | some i =>
    obtain ⟨-, hi⟩ := State.otherInSend_some hf
    rw [State.bound_unique ((hs.sent_iff p i).1 hi) ((hs.sent_iff p j).1 h)]

/-- Settles O38: the pass begins in the state that the two ended passes leave. -/
theorem transmitPassSupersedes : Obligations.TransmitPassSupersedes := by
  intro a p k s hs hmesh
  refine ⟨fun hst => ?none, fun hvacant hfilling => ?begins⟩
  case none => exact exec_transmitPassStart_none hmesh (SlotState.startsPass_eq_false hst)
  case begins =>
    have hstarts : (s.slot k).state.startsPass = true := by
      cases hst : (s.slot k).state <;> simp_all [SlotState.startsPass]
    have hother : (s.endForSend k).otherInSend p k = s.otherInSend p k :=
      State.otherInSend_congr (State.endForSend_slots s k) p k
    have ht := (exec_transmitPassStart hmesh hstarts).trans
      (congrArg Host.Outcome.next (State.beginPass_eq rfl rfl a.addr))
    have hdropped (q : Port) (hst : (s.slot k).state = .inSend) (hq : (s.slot k).passPort = some q) (hqp : q ≠ p) :
        ((s.endForSend k).supersedeOther p k).binding q = none := by
      rw [State.binding_supersedeOther hqp]
      show (s.endForSend k).overlay.bindings[q.val] = none
      rw [State.endForSend_bindings]
      exact State.bindingsWithout_dropped hst hq
    have hnone (h : ∀ j, j ≠ k → (s.slot j).state = .inSend → (s.slot j).passPort ≠ some p) :
        ((s.endForSend k).supersedeOther p k).counters = s.sentCounters k := by
      have hf : (s.endForSend k).otherInSend p k = none := by
        rw [hother]
        cases hf : s.otherInSend p k with
        | none => rfl
        | some j =>
          obtain ⟨hj, hsend, hp⟩ := State.otherInSend_some hf
          exact absurd hp (h j hj hsend)
      rw [State.supersedeOther_none hf, State.endForSend_counters]
    have hsome (j : SlotNo) (hj : j ≠ k) (hsend : (s.slot j).sentBy p) :
        ((s.endForSend k).supersedeOther p k).counters = countedAt (s.sentCounters k) 14 ∧
          ((s.endForSend k).supersedeOther p k).slot j =
            (s.slot j).passEnded (s.now + s.settings.outcomeDeadline) := by
      have hf : (s.endForSend k).otherInSend p k = some j := hother.trans (hs.otherInSend_eq hj hsend)
      rw [State.supersedeOther_some hf]
      constructor
      · rw [← State.endForSend_counters]
        rfl
      · refine (State.slot_setSlot_same _ _ _).trans ?_
        rw [State.endForSend_eq]
        rfl
    generalize (s.endForSend k).supersedeOther p k = u at *
    have hslot : ∀ x : SlotRecord, (u.slots.set k.val x)[k.val] = x := fun x => Vector.getElem_set_self _
    refine ⟨_, ht, ?_, ?_, ?_, ?_⟩
    · exact congrArg SlotRecord.state (hslot _)
    · exact congrArg SlotRecord.passPort (hslot _)
    · exact congrArg SlotRecord.deadline (hslot _)
    · refine ⟨fun q hst hq hqp => ?_, hnone, fun j hj hsend hp => ⟨(hsome j hj ⟨hsend, hp⟩).1, ?_⟩⟩
      · exact (Vector.getElem_set_ne p.isLt q.isLt fun h => hqp (Fin.ext h.symm)).trans (hdropped q hst hq hqp)
      · exact (Vector.getElem_set_ne k.isLt j.isLt fun h => hj (Fin.ext h.symm)).trans (hsome j hj ⟨hsend, hp⟩).2

end Sys2Proof.Machine
end

section
/-! PROOFS. The end of a computation; the forwarding lookup and the choosing step (O34, O35). -/

namespace Sys2Proof.Machine

variable {s t u : State}

/-! ### The end of a computation -/

/-- A computation that ends is counted (R62). -/
theorem State.conclude_counters (s : State) (l : Landing) (v : Verdict) :
    (s.conclude l v).counters = countedFor s.counters v.code v.reason := State.announce_counters _ l v

/-- What the end of a computation leaves (R41, R62). -/
theorem State.conclude_kept (s : State) (l : Landing) (v : Verdict) :
    let t := s.conclude l v
    t.links = s.links ∧ t.walker = s.walker ∧ t.routes = s.routes ∧ t.wanted = s.wanted ∧ t.events = s.events := by
  intro t
  have ht : t = _ := s.conclude_eq l v
  rw [ht]
  exact ⟨rfl, rfl, rfl, rfl, rfl⟩

/-- A verdict without a reason ends its computation (R13, R23, R36, R41, R42). -/
theorem State.conclude_ends (s : State) (l : Landing) {v : Verdict} (h : v.reason = none) :
    s.ends (s.conclude l v) l v.code v.mask v.link := by
  refine ⟨s.conclude_work l v, ?_, ?_, fun hl => ?_, fun hl a d be n hheld => ?_⟩
  · rw [State.conclude_eq]
  · refine (State.announce_slots _ l v).trans ?_
    unfold State.recordedSlots
    rw [h]
    rfl
  · unfold State.conclude
    rw [State.announce_passed hl]
    exact ⟨rfl, rfl⟩
  · unfold State.conclude
    rw [State.announce_releases hl (s := { s with verdicts := { s.verdicts with work := none } }) hheld]
    exact ⟨rfl, rfl⟩

/-- What the end of a computation starts from is the landing's part of the state. -/
theorem State.ends.of_kept {l : Landing} {c : VerdictCode} {m : PortMask} {n : Option LinkName} (h : u.ends t l c m n)
    (verdicts : u.verdicts.waiting = s.verdicts.waiting) (slots : u.slots = s.slots) (mem : u.mem = s.mem) (bus : u.bus = s.bus)
    (links : u.links = s.links) : s.ends t l c m n := by
  obtain ⟨hwork, hwaiting, hslots, hpassed, hreleased⟩ := h
  have hslot : u.slot l.slot = s.slot l.slot := by rw [State.slot, slots]; rfl
  refine ⟨hwork, hwaiting.trans verdicts, ?_, fun hl => ?_, fun hl a d be k hheld => ?_⟩
  · rw [hslots, slots, hslot]
  · obtain ⟨hmem, hbus⟩ := hpassed hl
    exact ⟨hmem.trans mem, hbus.trans bus⟩
  · obtain ⟨hbus, hmem⟩ := hreleased hl a d be k (by rw [bus]; exact hheld)
    rw [hbus, hmem, bus, mem, State.staleFlag_congr links]
    exact ⟨rfl, rfl⟩

/-- The verdict ends of a state that a selection made. -/
theorem State.ends.of_reselect {l : Landing} {c : VerdictCode} {m : PortMask} {n : Option LinkName} {r : RouteIx}
    {e : RouteEntry} (h : (s.reselect r e).ends t l c m n) : s.ends t l c m n := by
  obtain ⟨hlinks, -, hmem, hbus, hslots, -, hverdicts, -⟩ := s.reselect_kept r e
  exact h.of_kept (by rw [hverdicts]) hslots hmem hbus hlinks

/-- A source that stays as it is need not be listed. -/
theorem State.onlyRaises.without {e : EventSource} {es : List EventSource} (h : s.onlyRaises t (e :: es))
    (hkept : t.pendingOf e = s.pendingOf e) : s.onlyRaises t es := by
  obtain ⟨hthreshold, hsources⟩ := h
  refine ⟨hthreshold, fun f => ?_⟩
  obtain ⟨hservice, hpriority, hpending⟩ := hsources f
  refine ⟨hservice, hpriority, fun hf => ?_⟩
  by_cases hfe : f = e
  · rw [hfe, hkept]
  · exact hpending (by simp [hfe, hf])

/-- Only the event unit says what is raised. -/
theorem State.onlyRaises.congr {es : List EventSource} (h : s.onlyRaises u es) (events : t.events = u.events) :
    s.onlyRaises t es := by
  unfold State.onlyRaises State.pendingOf at h ⊢
  rw [events]
  exact h

/-! ### The forwarding lookup -/

/-- The list holds a destination, in the words of the statements. -/
theorem State.wants_iff (s : State) (d : Node) : s.wants d = true ↔ ∃ w ∈ s.wanted, w.dest = d := by
  simp [State.wants]

/-- An accepted request, in the words of the statements (R116). -/
theorem State.acceptsWanted_iff (s : State) (d : Node) :
    s.acceptsWanted d = true ↔ (∃ w ∈ s.wanted, w.dest = d) ∨ s.wanted.length < 16 := by
  rw [State.acceptsWanted, Bool.or_eq_true, State.wants_iff, decide_eq_true_eq, Config.maxWanted]

/-- The wanted list after an accepted request (R116). -/
theorem State.requestWanted_wanted {d : Node} (h : (∃ w ∈ s.wanted, w.dest = d) ∨ s.wanted.length < 16) :
    (s.requestWanted d).wanted = wantedAfterRequest s.wanted d := by
  unfold State.requestWanted wantedAfterRequest
  by_cases hd : ∃ w ∈ s.wanted, w.dest = d
  · rw [if_pos ((s.wants_iff d).2 hd), if_pos hd]
    rfl
  · rw [if_neg (mt (s.wants_iff d).1 hd), if_neg hd, if_pos (show s.wanted.length < Config.maxWanted from h.resolve_left hd)]

/-- A lookup that found no usable primary: WAIT-ROUTE with its wanted entry, or DROP-NO-ROUTE (R54, R116). -/
def State.lookupWaits (s t : State) (l : Landing) : Prop :=
  let d := hdrFinal l.words
  let accepted := d ≠ 0 ∧ hdrFlowClass l.words ≤ 1 ∧ ((∃ w ∈ s.wanted, w.dest = d) ∨ s.wanted.length < 16)
  (accepted → s.ends t l .waitRoute 0 none ∧ t.counters = s.counters ∧ t.wanted = wantedAfterRequest s.wanted d) ∧
  (¬accepted → s.ends t l .dropNoRoute 0 none ∧ t.counters = countedAt s.counters 5 ∧ t.wanted = s.wanted)

/-- A frame without a usable primary (R54). -/
theorem State.noPrimary_waits (s : State) (l : Landing) : s.lookupWaits (s.noPrimary l) l := by
  unfold State.noPrimary
  dsimp only
  have haccepts := s.acceptsWanted_iff (hdrFinal l.words)
  refine ⟨fun ⟨hd, hclass, hlist⟩ => ?_, fun h => ?_⟩
  · rw [if_pos ⟨hd, hclass, haccepts.2 hlist⟩]
    have hu := s.requestWanted_eq (hdrFinal l.words)
    refine ⟨(State.conclude_ends _ l rfl).of_kept ?_ ?_ ?_ ?_ ?_, ?_, ?_⟩
    · rw [hu]
    · rw [hu]
    · rw [hu]
    · rw [hu]
    · rw [hu]
    · rw [State.conclude_counters, hu]
      rfl
    · rw [State.conclude_eq]
      exact State.requestWanted_wanted hlist
  · rw [if_neg fun ⟨hd, hclass, hlist⟩ => h ⟨hd, hclass, haccepts.1 hlist⟩]
    refine ⟨State.conclude_ends _ l rfl, State.conclude_counters _ l _, ?_⟩
    rw [State.conclude_eq]

/-- What a lookup without a usable primary leaves. -/
theorem State.noPrimary_kept (s : State) (l : Landing) :
    let t := s.noPrimary l
    t.links = s.links ∧ t.walker = s.walker ∧ t.routes = s.routes ∧ t.events = s.events := by
  unfold State.noPrimary
  dsimp only
  split
  · rw [State.conclude_eq, State.requestWanted_eq]
    exact ⟨rfl, rfl, rfl, rfl⟩
  · rw [State.conclude_eq]
    exact ⟨rfl, rfl, rfl, rfl⟩

/-- The landing's part of the state decides how a lookup waits. -/
theorem State.lookupWaits.of_reselect {l : Landing} {r : RouteIx} {e : RouteEntry} (h : (s.reselect r e).lookupWaits t l)
    (wanted : (s.reselect r e).wanted = s.wanted) : s.lookupWaits t l := by
  obtain ⟨-, hcounters, -⟩ := s.reselect_kept r e
  unfold State.lookupWaits at h ⊢
  rw [wanted, hcounters] at h
  exact ⟨fun ha => (h.1 ha).imp_left fun he => he.of_reselect, fun ha => (h.2 ha).imp_left fun he => he.of_reselect⟩

/-- The lookup step that is granted (R99, R110). -/
theorem State.lookupStep_granted {l : Landing} (hg : s.granted .verdict = true)
    (hw : s.verdicts.work = some { landing := l, phase := .lookup }) : s.lookupStep = s.lookupForward l := by
  unfold State.lookupStep
  rw [if_pos hg, hw]

/-- A lookup that finds no entry with a primary (R54). -/
theorem State.lookupForward_none {l : Landing}
    (h : ∀ r, s.findRoute (hdrFinal l.words) = some r → (s.route r).primary = none) : s.lookupForward l = s.noPrimary l := by
  unfold State.lookupForward
  cases hf : s.findRoute (hdrFinal l.words) with
  | none => rfl
  | some r =>
    dsimp only
    rw [h r hf]

/-- A lookup that finds a LIVE primary (R53). -/
theorem State.lookupForward_live {l : Landing} {r : RouteIx} {c : Choice} (hf : s.findRoute (hdrFinal l.words) = some r)
    (hp : (s.route r).primary = some c) (hl : (s.link c.link).state = .live) :
    s.lookupForward l = s.conclude l (.forwardOver (s.linkName c.link)) := by
  unfold State.lookupForward
  rw [hf]
  dsimp only
  rw [hp]
  exact if_pos (State.isLive_iff.2 hl)

/-- A lookup that reselects an entry whose primary is not LIVE (R110). -/
theorem State.lookupForward_reselects {l : Landing} {r : RouteIx} {c : Choice}
    (hf : s.findRoute (hdrFinal l.words) = some r) (hp : (s.route r).primary = some c)
    (hl : (s.link c.link).state ≠ .live) :
    let u := s.reselect r (s.route r)
    ((s.selected (s.route r)).primary = none → s.lookupForward l = u.noPrimary l) ∧
      ∀ c', (s.selected (s.route r)).primary = some c' →
        s.lookupForward l = u.conclude l (.forwardOver (u.linkName c'.link)) := by
  intro u
  have hroute : u.route r = s.selected (s.route r) := s.route_reselect_same r _
  have ht : s.lookupForward l = match (u.route r).primary with
      | none => u.noPrimary l
      | some pr => u.conclude l (.forwardOver (u.linkName pr.link)) := by
    unfold State.lookupForward
    rw [hf]
    dsimp only
    rw [hp]
    exact if_neg (mt State.isLive_iff.1 hl)
  rw [hroute] at ht
  constructor
  · intro h
    rw [ht, h]
  · intro c' h
    rw [ht, h]

/-- A lookup that finds a link: FORWARD over it (R53, R55). -/
def State.lookupForwards (s t : State) (l : Landing) (i : LinkIx) : Prop :=
  s.ends t l .forward (1#3 <<< (s.link i).port.val) (some { node := (s.link i).node, port := (s.link i).port }) ∧
    t.counters = countedAt s.counters 1 ∧ t.wanted = s.wanted

/-- FORWARD over a link ends the computation. -/
theorem State.conclude_forwards (s : State) (l : Landing) (i : LinkIx) :
    s.lookupForwards (s.conclude l (.forwardOver (s.linkName i))) l i := by
  obtain ⟨-, -, -, hwanted, -⟩ := s.conclude_kept l (.forwardOver (s.linkName i))
  exact ⟨State.conclude_ends s l rfl, State.conclude_counters s l _, hwanted⟩

/-- FORWARD after a selection that kept the wanted list. -/
theorem State.lookupForwards.of_reselect {l : Landing} {i : LinkIx} {r : RouteIx} {e : RouteEntry}
    (h : (s.reselect r e).lookupForwards t l i) (wanted : (s.reselect r e).wanted = s.wanted) : s.lookupForwards t l i := by
  obtain ⟨hlinks, hcounters, -⟩ := s.reselect_kept r e
  have hlink : (s.reselect r e).link i = s.link i := by rw [State.link, hlinks]; rfl
  unfold State.lookupForwards at h ⊢
  rw [wanted, hcounters, hlink] at h
  exact h.imp_left fun he => he.of_reselect

/-- A selection of an entry that has a primary finds no route for the wanted list. -/
theorem State.reselect_primary {r : RouteIx} {e : RouteEntry} {c : Choice} (hp : e.primary = some c) :
    (s.reselect r e).wanted = s.wanted ∧ s.onlyRaises (s.reselect r e) [.gatewayChange] := by
  obtain ⟨-, hkept, -⟩ := s.reselect_reports r e
  have hnot : ¬(e.primary = none ∧ (s.selected e).primary ≠ none ∧ ∃ w ∈ s.wanted, w.dest = e.dest ∧ w.state = .waiting) := by
    rintro ⟨h, -⟩
    rw [hp] at h
    cases h
  obtain ⟨hpending, hwanted⟩ := hkept hnot
  exact ⟨hwanted, (s.reselect_onlyRaises r e).without hpending⟩

/-- What a lookup that reselects leaves, and how it ends (R53, R54, R108, R110). -/
theorem State.lookupForward_reselected {l : Landing} {r : RouteIx} {c : Choice}
    (hf : s.findRoute (hdrFinal l.words) = some r) (hp : (s.route r).primary = some c)
    (hl : (s.link c.link).state ≠ .live) :
    let t := s.lookupForward l
    let u := s.reselect r (s.route r)
    t.links = s.links ∧ t.walker = s.walker ∧ t.routes = u.routes ∧ t.events = u.events ∧
      (∀ c', (s.selected (s.route r)).primary = some c' → s.lookupForwards t l c'.link) ∧
      ((s.selected (s.route r)).primary = none → s.lookupWaits t l) := by
  intro t u
  obtain ⟨hwaits, hforwards⟩ := State.lookupForward_reselects hf hp hl
  obtain ⟨hlinks, -, -, -, -, -, -, -, hwalker, -⟩ := s.reselect_kept r (s.route r)
  obtain ⟨hwanted, -⟩ := s.reselect_primary (r := r) hp
  cases hnew : (s.selected (s.route r)).primary with
  | none =>
    have ht : t = u.noPrimary l := hwaits hnew
    obtain ⟨hlinks', hwalker', hroutes, hevents⟩ := u.noPrimary_kept l
    rw [ht]
    exact ⟨hlinks'.trans hlinks, hwalker'.trans hwalker, hroutes, hevents, nofun,
      fun _ => (u.noPrimary_waits l).of_reselect hwanted⟩
  | some c' =>
    have ht : t = u.conclude l (.forwardOver (u.linkName c'.link)) := hforwards c' hnew
    obtain ⟨hlinks', hwalker', hroutes, -, hevents⟩ := u.conclude_kept l (.forwardOver (u.linkName c'.link))
    rw [ht]
    refine ⟨hlinks'.trans hlinks, hwalker'.trans hwalker, hroutes, hevents, fun c'' h => ?_, nofun⟩
    obtain rfl : c' = c'' := Option.some.inj h
    exact (u.conclude_forwards l c'.link).of_reselect hwanted

/-- Settles O35: the lookup finds a LIVE primary, one that is not LIVE, or none. -/
theorem forwardingLookupResult : Obligations.ForwardingLookupResult := by
  intro l s hg hw d forwards waits
  have ht : exec .forwardingLookup s = .next (s.lookupForward l) :=
    congrArg Host.Outcome.next (State.lookupStep_granted hg hw)
  by_cases hnone : ∀ r, s.findRoute d = some r → (s.route r).primary = none
  case pos =>
    have hforward := State.lookupForward_none hnone
    obtain ⟨hlinks, hwalker, hroutes, hevents⟩ := s.noPrimary_kept l
    refine ⟨_, ht.trans (congrArg Host.Outcome.next hforward), hlinks, hwalker, State.onlyRaises_of_events hevents _,
      fun r c hf hp => ?_, fun _ => ⟨s.noPrimary_waits l, hroutes, hevents⟩⟩
    rw [hnone r hf] at hp
    cases hp
  case neg =>
    simp only [Classical.not_forall] at hnone
    obtain ⟨r, hf, hsome⟩ := hnone
    obtain ⟨c, hp⟩ := Option.ne_none_iff_exists'.1 hsome
    have hthis {P : RouteIx → Choice → Prop} (h : P r c) (r' : RouteIx) (c' : Choice) (hf' : s.findRoute d = some r')
        (hp' : (s.route r').primary = some c') : P r' c' := by
      obtain rfl : r = r' := Option.some.inj (hf.symm.trans hf')
      obtain rfl : c = c' := Option.some.inj (hp.symm.trans hp')
      exact h
    by_cases hl : (s.link c.link).state = .live
    case pos =>
      have hforward := State.lookupForward_live hf hp hl
      obtain ⟨hlinks, hwalker, hroutes, -, hevents⟩ := s.conclude_kept l (.forwardOver (s.linkName c.link))
      exact ⟨_, ht.trans (congrArg Host.Outcome.next hforward), hlinks, hwalker, State.onlyRaises_of_events hevents _,
        hthis ⟨fun _ => ⟨s.conclude_forwards l c.link, hroutes, hevents⟩, fun h => absurd hl h⟩, fun h => absurd (h r hf) hsome⟩
    case neg =>
      obtain ⟨hlinks, hwalker, hroutes, hevents, hforwards, hwaits⟩ := State.lookupForward_reselected hf hp hl
      obtain ⟨-, hraises⟩ := s.reselect_primary (r := r) hp
      obtain ⟨-, -, hgateway⟩ := s.reselect_reports r (s.route r)
      have hroute (j : RouteIx) : (s.lookupForward l).route j = (s.reselect r (s.route r)).route j :=
        congrArg (·[j.val]) hroutes
      refine ⟨_, ht, hlinks, hwalker, hraises.congr hevents, hthis ⟨fun h => absurd h hl, fun _ => ⟨?_, fun j hj => ?_, ?_,
        hforwards, hwaits⟩⟩, fun h => absurd (h r hf) hsome⟩
      · rw [hroute, State.route_reselect_same]
      · rw [hroute, State.route_reselect_other s _ hj]
      · unfold State.pendingOf at hgateway ⊢
        rw [hevents]
        exact hgateway

/-! ### The choosing step -/

/-- The rebroadcast test, in the words of the statements (R105). -/
theorem RouteEntry.mayRebroadcast_iff (e : RouteEntry) (q : Half) :
    e.mayRebroadcast q = true ↔
      ∀ q', e.lastRebroadcast = some q' → 0 < (q - q').toNat ∧ (q - q').toNat < 32768 := by
  unfold RouteEntry.mayRebroadcast
  cases e.lastRebroadcast with
  | none => simp
  | some p => simp [seqNewer]

/-- The primary is over a link. -/
theorem choiceLink_eq_some (c : Option Choice) (i : LinkIx) : choiceLink c = some i ↔ ∃ x, c = some x ∧ x.link = i := by
  simp [choiceLink]

/-- The choosing step without an entry (R105). -/
theorem State.choose_none {l : Landing} (h : s.findRoute (hdrOrigin l.words) = none) (m : PortMask) (perm : Bool)
    (i : LinkIx) : s.choose l m perm i = s.conclude l (.plain .absorb) := by
  unfold State.choose
  rw [h]

/-- The notice is sent on again (R105). -/
def Landing.rebroadcasts (l : Landing) (perm : Bool) (i : LinkIx) (e : RouteEntry) : Prop :=
  perm = true ∧
    (∀ q', e.lastRebroadcast = some q' →
      0 < (hdrSequence l.words - q').toNat ∧ (hdrSequence l.words - q').toNat < 32768) ∧
    ∃ c, e.primary = some c ∧ c.link = i

/-- The choosing step of an entry (R105). -/
theorem State.choose_some {l : Landing} {r : RouteIx} (h : s.findRoute (hdrOrigin l.words) = some r) (m : PortMask)
    (perm : Bool) (i : LinkIx) :
    let u := s.reselect r (s.route r)
    let e := s.selected (s.route r)
    (l.rebroadcasts perm i e → s.choose l m perm i =
        (u.setRoute r { e with lastRebroadcast := some (hdrSequence l.words) }).conclude l (.masked .rebroadcast m)) ∧
      (¬l.rebroadcasts perm i e → s.choose l m perm i = u.conclude l (.plain .absorb)) := by
  intro u e
  have hroute : u.route r = e := s.route_reselect_same r _
  have ht : s.choose l m perm i =
      if perm && (u.route r).mayRebroadcast (hdrSequence l.words) && choiceLink (u.route r).primary == some i then
        (u.setRoute r { u.route r with lastRebroadcast := some (hdrSequence l.words) }).conclude l (.masked .rebroadcast m)
      else u.conclude l (.plain .absorb) := by
    unfold State.choose
    rw [h]
  have hagain : (perm && e.mayRebroadcast (hdrSequence l.words) && choiceLink e.primary == some i) = true ↔
      l.rebroadcasts perm i e := by
    rw [Bool.and_eq_true, Bool.and_eq_true, beq_iff_eq, RouteEntry.mayRebroadcast_iff, choiceLink_eq_some, and_assoc]
    exact Iff.rfl
  rw [hroute] at ht
  exact ⟨fun ha => ht.trans (if_pos (hagain.2 ha)), fun ha => ht.trans (if_neg (mt hagain.1 ha))⟩

/-- Settles O34: without an entry the frame is absorbed; else the entry is reselected first. -/
theorem choosingStepResult : Obligations.ChoosingStepResult := by
  refine ⟨fun s r hr => ?behind, ?granted⟩
  case behind =>
    obtain ⟨-, hchoosing, -⟩ := s.arbitrated_verdictSteps
    refine congrArg Host.Outcome.next (hchoosing.1 (Bool.eq_false_iff.2 fun hg => ?_))
    have hr' : Requester.verdict = r := State.granted_holder hg ((s.storageHolder_eq_some r).2 hr)
    obtain ⟨hasks, -⟩ := hr
    rw [← hr'] at hasks
    exact hasks
  case granted =>
    intro l m perm i first s hg hw q absorbs
    have ht : exec .noticeChoosingStep s = .next (s.choose l m perm i) := by
      refine congrArg Host.Outcome.next ?_
      unfold State.choosingStep
      rw [if_pos hg, hw]
    cases hf : s.findRoute (hdrOrigin l.words) with
    | none =>
      obtain ⟨hlinks, hwalker, hroutes, hwanted, hevents⟩ := s.conclude_kept l (.plain .absorb)
      refine ⟨_, ht.trans (congrArg Host.Outcome.next (State.choose_none hf m perm i)), hlinks, hwalker,
        State.onlyRaises_of_events hevents _,
        fun _ => ⟨⟨State.conclude_ends s l rfl, State.conclude_counters s l _⟩, hroutes, hwanted, hevents⟩, nofun⟩
    | some r =>
      obtain ⟨hagain, habsorbs⟩ := State.choose_some hf m perm i
      obtain ⟨hlinks, hcounters, -, -, -, -, -, -, hwalker, -⟩ := s.reselect_kept r (s.route r)
      have hraises := s.reselect_onlyRaises r (s.route r)
      have hreports := s.reselect_reports r (s.route r)
      have hsame := s.route_reselect_same r (s.route r)
      have hother (j : RouteIx) (hj : j ≠ r) := s.route_reselect_other (s.route r) hj
      have hends {t : State} {c : VerdictCode} {m : PortMask} {n : Option LinkName}
          (h : (s.reselect r (s.route r)).ends t l c m n) : s.ends t l c m n := h.of_reselect
      generalize s.reselect r (s.route r) = u at *
      have hpending {t : State} (h : t.events = u.events) (e : EventSource) : t.pendingOf e = u.pendingOf e := by
        rw [State.pendingOf, h]
        rfl
      have hthis {P : RouteIx → Prop} (h : P r) (r' : RouteIx) (hr' : some r = some r') : P r' := Option.some.inj hr' ▸ h
      by_cases ha : l.rebroadcasts perm i (s.selected (s.route r))
      case pos =>
        let v := u.setRoute r { s.selected (s.route r) with lastRebroadcast := some (hdrSequence l.words) }
        obtain ⟨hlinks', hwalker', hroutes, hwanted, hevents⟩ := v.conclude_kept l (.masked .rebroadcast m)
        have hroute (j : RouteIx) : (v.conclude l (.masked .rebroadcast m)).route j = v.route j := congrArg (·[j.val]) hroutes
        refine ⟨_, ht.trans (congrArg Host.Outcome.next (hagain ha)), hlinks'.trans hlinks, hwalker'.trans hwalker,
          hraises.congr hevents, nofun, hthis ⟨fun j hj => ?_,
            hreports.congr rfl rfl rfl hwanted (hpending hevents _) (hpending hevents _), fun _ => ⟨?_, ?_, ?_⟩,
            fun h => absurd ha h⟩⟩
        · rw [hroute, State.route_setRoute_other u _ hj, hother j hj]
        · rw [hroute, State.route_setRoute_same]
        · exact hends (State.conclude_ends v l rfl)
        · rw [State.conclude_counters, ← hcounters]
          rfl
      case neg =>
        obtain ⟨hlinks', hwalker', hroutes, hwanted, hevents⟩ := u.conclude_kept l (.plain .absorb)
        have hroute (j : RouteIx) : (u.conclude l (.plain .absorb)).route j = u.route j := congrArg (·[j.val]) hroutes
        refine ⟨_, ht.trans (congrArg Host.Outcome.next (habsorbs ha)), hlinks'.trans hlinks, hwalker'.trans hwalker,
          hraises.congr hevents, nofun, hthis ⟨fun j hj => ?_,
            hreports.congr rfl rfl rfl hwanted (hpending hevents _) (hpending hevents _), fun h => absurd h ha,
            fun _ => ⟨?_, hends (State.conclude_ends u l rfl), ?_⟩⟩⟩
        · rw [hroute, hother j hj]
        · rw [hroute, hsame]
        · rw [State.conclude_counters, ← hcounters]
          rfl

end Sys2Proof.Machine
end

section
/-! PROOFS. The walker's step and the completion of a walk (O46). -/

namespace Sys2Proof.Machine

variable {s t u : State}

/-! ### The step on an entry -/

/-- The candidates that a walk keeps, in the words of the statements (R124). -/
theorem State.keepsCandidate_eq (s : State) (w : Walk) :
    s.keepsCandidate w = fun c =>
      decide (c.link ∉ w.evict ∧ (s.link c.link).state ≠ .lost ∧ (s.link c.link).state ≠ .purging ∧
        (s.link c.link).state ≠ .free) := by
  funext c
  rw [Bool.eq_iff_iff, decide_eq_true_eq]
  unfold State.keepsCandidate
  rw [Bool.and_eq_true, Bool.not_eq_true', ← Bool.not_eq_true, List.contains_iff_mem]
  refine and_congr_right fun _ => ?_
  cases (s.link c.link).state <;> simp [LinkState.estimated]

/-- The entry content that a walk's step selects from (R124, R126). -/
def State.walked (s : State) (w : Walk) : RouteEntry :=
  { s.route w.next with
    candidates := (s.route w.next).candidates.filter (s.keepsCandidate w)
    age := if w.refresh = true then min 255 ((s.route w.next).age + 1) else (s.route w.next).age }

/-- The walk empties its entry (R125, R127). -/
def State.walkEmpties (s : State) (w : Walk) : Prop :=
  (s.walked w).pin = none ∧
    (w.flush = true ∨ (w.refresh = true ∧ s.settings.routeExpiry ≤ (s.walked w).age) ∨ (s.walked w).candidates = [])

/-- The step on an EMPTY entry (R124). -/
theorem State.walkEntry_empty {w : Walk} (h : (s.route w.next).state = .empty) : s.walkEntry w = s := by
  unfold State.walkEntry
  exact if_pos h

/-- The entry content after the removal and the aging. -/
theorem State.aged_trimmed (s : State) (w : Walk) :
    (if w.refresh = true then (s.trimmed w (s.route w.next)).aged else s.trimmed w (s.route w.next)) = s.walked w := by
  unfold State.walked
  split <;> rfl

/-- The step on an entry in use (R124 to R127). -/
theorem State.walkEntry_used {w : Walk} (h : (s.route w.next).state ≠ .empty) :
    (s.walkEmpties w → s.walkEntry w = s.emptyEntry w.next (s.walked w)) ∧
      (¬s.walkEmpties w → s.walkEntry w = s.reselect w.next (s.walked w)) := by
  have ht : s.walkEntry w =
      if (w.flush && (s.walked w).pin.isNone) = true then s.emptyEntry w.next (s.walked w)
      else if ((s.walked w).pin.isNone &&
          ((w.refresh && decide (s.settings.routeExpiry ≤ (s.walked w).age)) || (s.walked w).candidates.isEmpty)) = true then
        s.emptyEntry w.next (s.walked w)
      else s.reselect w.next (s.walked w) := by
    unfold State.walkEntry
    dsimp only
    rw [if_neg h, s.aged_trimmed w]
    rfl
  have hflush : (w.flush && (s.walked w).pin.isNone) = true ↔ w.flush = true ∧ (s.walked w).pin = none := by
    rw [Bool.and_eq_true, Option.isNone_iff_eq_none]
  have hgone : ((s.walked w).pin.isNone &&
      ((w.refresh && decide (s.settings.routeExpiry ≤ (s.walked w).age)) || (s.walked w).candidates.isEmpty)) = true ↔
        (s.walked w).pin = none ∧
          ((w.refresh = true ∧ s.settings.routeExpiry ≤ (s.walked w).age) ∨ (s.walked w).candidates = []) := by
    rw [Bool.and_eq_true, Option.isNone_iff_eq_none, Bool.or_eq_true, Bool.and_eq_true, decide_eq_true_eq,
      List.isEmpty_iff]
  rw [ht]
  refine ⟨fun ⟨hpin, hwhy⟩ => ?_, fun hno => ?_⟩
  · by_cases hf : w.flush = true
    · exact if_pos (hflush.2 ⟨hf, hpin⟩)
    · rw [if_neg fun hc => hf (hflush.1 hc).1]
      exact if_pos (hgone.2 ⟨hpin, hwhy.resolve_left hf⟩)
  · rw [if_neg fun hc => hno ⟨(hflush.1 hc).2, .inl (hflush.1 hc).1⟩]
    exact if_neg fun hc => hno ⟨(hgone.1 hc).1, .inr (hgone.1 hc).2⟩

/-- What an emptied entry reports (R125). -/
theorem State.emptyEntry_reports (s : State) (i : RouteIx) (e : RouteEntry) :
    let t := s.emptyEntry i e
    t.route i = RouteEntry.empty ∧ t.wanted = s.wanted ∧ t.pendingOf .routeFound = s.pendingOf .routeFound ∧
      t.pendingOf .gatewayChange = (s.pendingOf .gatewayChange || (e.primary.isSome && e.gateway)) ∧
      s.onlyRaises t [.gatewayChange] := by
  intro t
  have ht : t = (s.setRoute i RouteEntry.empty).raiseIf (e.primary.isSome && e.gateway) .gatewayChange := rfl
  refine ⟨?_, ?_, ?_, ?_, State.onlyRaises_raiseIf (s.setRoute i RouteEntry.empty) _ _⟩
  · rw [ht, State.raiseIf_eq]
    exact State.route_setRoute_same s i _
  · rw [ht, State.raiseIf_eq]
    rfl
  · rw [ht, State.pendingOf_raiseIf]
    simp
    rfl
  · rw [ht, State.pendingOf_raiseIf]
    simp
    rfl

/-- What the step on an entry leaves of the rest, and what it raises (R124 to R127, R108). -/
theorem State.walkEntry_kept (s : State) (w : Walk) :
    let t := s.walkEntry w
    (∀ r, r ≠ w.next → t.route r = s.route r) ∧ s.onlyRaises t [.routeFound, .gatewayChange] := by
  by_cases he : (s.route w.next).state = .empty
  · rw [State.walkEntry_empty he]
    exact ⟨fun _ _ => rfl, State.onlyRaises_of_events rfl _⟩
  · obtain ⟨hempties, hreselects⟩ := State.walkEntry_used he
    by_cases hgone : s.walkEmpties w
    · rw [hempties hgone]
      obtain ⟨-, -, -, -, hraises⟩ := s.emptyEntry_reports w.next (s.walked w)
      refine ⟨fun r hr => ?_, hraises.mono (by simp)⟩
      rw [State.emptyEntry_eq]
      exact State.route_setRoute_other s _ hr
    · rw [hreselects hgone]
      exact ⟨fun r hr => s.route_reselect_other _ hr, s.reselect_onlyRaises _ _⟩

/-! ### The completion of a walk -/

/-- The purge set after a walk's links are freed (R84). -/
theorem State.purgeSet_foldl_freeEvicted {is : List LinkIx} (h : is.Nodup) (s : State) :
    (is.foldl State.freeEvicted s).purge.set = s.purge.set.filter fun n => decide (∀ i ∈ is, s.linkName i ≠ n) := by
  induction is generalizing s with
  | nil => exact (List.filter_eq_self.2 fun _ _ => decide_eq_true fun _ hi => nomatch hi).symm
  | cons i is ih =>
    obtain ⟨hi, his⟩ := List.nodup_cons.1 h
    have hname (j : LinkIx) (hj : j ∈ is) : (s.freeEvicted i).linkName j = s.linkName j := by
      have hlink : (s.freeEvicted i).link j = s.link j := State.link_setLink_other _ _ fun hji => hi (hji ▸ hj)
      rw [State.linkName, hlink]
      rfl
    rw [List.foldl_cons, ih his]
    show (s.purge.set.filter fun n => n != s.linkName i).filter _ = _
    rw [List.filter_filter]
    refine List.filter_congr fun n _ => ?_
    rw [Bool.eq_iff_iff, Bool.and_eq_true, decide_eq_true_eq, decide_eq_true_eq, bne_iff_ne, List.forall_mem_cons]
    rw [and_comm]
    refine and_congr ne_comm (forall₂_congr fun j hj => ?_)
    rw [hname j hj]

/-- A walk purged one of its links (R128). -/
def State.purgedBy (s : State) (w : Walk) : Bool := w.evict.any fun i => (s.link i).state == .purging

/-- Freeing links changes the neighbour table and the purge set alone (R84, R128). -/
theorem State.foldl_freeEvicted_eq (s : State) (is : List LinkIx) :
    is.foldl State.freeEvicted s =
      { s with links := (is.foldl State.freeEvicted s).links, purge := (is.foldl State.freeEvicted s).purge } := by
  obtain ⟨set, ls, h⟩ := freeEvicted_shape s is
  rw [h]

/-- A walk that completes (R128, R129, R84, R122). -/
theorem State.completeWalk_eq (s : State) (w : Walk) :
    let v := w.evict.foldl State.freeEvicted s
    let walker := { s.walker with walk := none }
    s.completeWalk w =
      { s with
        links := v.links, purge := v.purge
        walker := if s.engineRuns = true then walker.begun else walker
        events := ((s.raiseIf (s.purgedBy w) .purgeDone).raiseIf w.flush .commandDone).events
        command := if w.flush = true then { s.command with running := false, result := .done } else s.command } := by
  intro v walker
  have hv : v = _ := s.foldl_freeEvicted_eq w.evict
  unfold State.completeWalk
  dsimp only
  have hpurged : (s.purgedBy w) = w.evict.any fun i => (s.link i).state == .purging := rfl
  have hraised (links : Vector Link 32) (purge : PurgeUnit) (walker : Walker) (c : Bool) :
      State.raiseIf { s with links := links, purge := purge, walker := walker } c .purgeDone =
        { s with links := links, purge := purge, walker := walker, events := (s.raiseIf c .purgeDone).events } := by
    cases c <;> rfl
  rw [← hpurged, State.beginWalk_walker, show w.evict.foldl State.freeEvicted s = _ from hv, hraised]
  cases w.flush <;> rfl

/-- What the advance of a walk leaves, and what it raises (R123, R128). -/
theorem State.advanceWalk_kept (s : State) (w : Walk) :
    let t := s.advanceWalk w
    t.routes = s.routes ∧ t.wanted = s.wanted ∧ t.counters = s.counters ∧ t.mem = s.mem ∧ t.slots = s.slots ∧
      s.onlyRaises t (if w.next.val < 255 then [] else [.purgeDone, .commandDone]) := by
  unfold State.advanceWalk
  by_cases h : w.next.val < 255
  · rw [dif_pos (show w.next.val + 1 < 256 by omega), if_pos h]
    exact ⟨rfl, rfl, rfl, rfl, rfl, State.onlyRaises_of_events rfl _⟩
  · rw [dif_neg (show ¬w.next.val + 1 < 256 by omega), if_neg h, State.completeWalk_eq]
    refine ⟨rfl, rfl, rfl, rfl, rfl, ?_⟩
    exact State.onlyRaises.congr ((s.onlyRaises_raiseIf (s.purgedBy w) .purgeDone).trans
      (State.onlyRaises_raiseIf _ w.flush .commandDone)) rfl

/-- A walk's next entry (R123). -/
theorem State.advanceWalk_moves {w : Walk} (h : w.next.val < 255) :
    s.advanceWalk w = { s with walker := { s.walker with walk := some { w with next := w.next + 1 } } } := by
  have hnext : (⟨w.next.val + 1, by omega⟩ : RouteIx) = w.next + 1 := by
    apply Fin.ext
    exact (Fin.val_add_one_of_lt (n := 255) (Fin.lt_def.2 h)).symm
  unfold State.advanceWalk
  rw [dif_pos (show w.next.val + 1 < 256 by omega), hnext]

/-- The walk's last entry (R128). -/
theorem State.advanceWalk_completes {w : Walk} (h : w.next = 255) : s.advanceWalk w = s.completeWalk w := by
  unfold State.advanceWalk
  rw [h]
  rfl

/-! ### The walker's step -/

/-- A walker step that is granted (R99, R123). -/
theorem State.walkerStep_granted {w : Walk} (hg : s.granted .walker = true) (hw : s.walker.walk = some w) :
    s.walkerStep = (s.afterOtherStep.walkEntry w).advanceWalk w := by
  unfold State.walkerStep
  rw [if_pos hg, hw]

/-- The events that an entry's step and the advance raise. -/
theorem State.walkStep_onlyRaises (s : State) (w : Walk) :
    s.onlyRaises ((s.walkEntry w).advanceWalk w)
      ([.routeFound, .gatewayChange] ++ if w.next.val < 255 then [] else [.purgeDone, .commandDone]) := by
  obtain ⟨-, hentry⟩ := s.walkEntry_kept w
  obtain ⟨-, -, -, -, -, hadvance⟩ := (s.walkEntry w).advanceWalk_kept w
  exact hentry.trans hadvance

/-- The advance leaves what the step on the entry reports. -/
theorem State.advanceWalk_pendingOf (s : State) (w : Walk) {e : EventSource} (h : e = .routeFound ∨ e = .gatewayChange) :
    (s.advanceWalk w).pendingOf e = s.pendingOf e := by
  obtain ⟨-, -, -, -, -, -, hsources⟩ := s.advanceWalk_kept w
  obtain ⟨-, -, hpending⟩ := hsources e
  refine hpending ?_
  split
  · simp
  · rcases h with rfl | rfl <;> decide

/-- Settles O46: the step on the entry, and the advance that completes the walk after entry 255. -/
theorem walkStepsAndCompletion : Obligations.WalkStepsAndCompletion := by
  refine ⟨fun w s hg hw => ?step, fun w s hg hw hlast hruns => ?completes⟩
  case step =>
    intro e kept aged emptied
    have ht := State.walkerStep_granted hg hw
    have hu : s.afterOtherStep.walkEntry w = _ := s.afterOtherStep.walkEntry_eq w
    have hwalked : s.afterOtherStep.walked w = { e with candidates := kept, age := aged } := by
      unfold State.walked
      rw [State.keepsCandidate_eq]
      rfl
    have hemptied : s.afterOtherStep.walkEmpties w ↔ emptied := by
      unfold State.walkEmpties
      rw [hwalked]
      exact Iff.rfl
    obtain ⟨hother, -⟩ := s.afterOtherStep.walkEntry_kept w
    have hraises := s.afterOtherStep.walkStep_onlyRaises w
    obtain ⟨hroutes, hwanted, hcounters, hmem, hslots, -⟩ := (s.afterOtherStep.walkEntry w).advanceWalk_kept w
    have hroute (r : RouteIx) : ((s.afterOtherStep.walkEntry w).advanceWalk w).route r =
        (s.afterOtherStep.walkEntry w).route r := congrArg (·[r.val]) hroutes
    have hfound := (s.afterOtherStep.walkEntry w).advanceWalk_pendingOf w (.inl rfl)
    have hgateway := (s.afterOtherStep.walkEntry w).advanceWalk_pendingOf w (.inr rfl)
    have hused := State.walkEntry_used (s := s.afterOtherStep) (w := w)
    rw [hemptied, hwalked] at hused
    refine ⟨_, congrArg Host.Outcome.next ht, fun hlt => ?moves, fun r hr => (hroute r).trans (hother r hr), ?counters, ?mem, ?slots,
      hraises, fun he => ?empty, fun he hgone => ?emptied, fun he hstays => ?selected⟩
    case moves =>
      rw [State.advanceWalk_moves hlt, hu]
      exact ⟨rfl, rfl, rfl, rfl⟩
    case counters => rw [hcounters, hu]; rfl
    case mem => rw [hmem, hu]; rfl
    case slots => rw [hslots, hu]; rfl
    case empty =>
      rw [State.walkEntry_empty (s := s.afterOtherStep) he] at hroutes hwanted hfound hgateway ⊢
      exact ⟨hroutes, ⟨hwanted, hfound⟩, hgateway⟩
    case emptied =>
      obtain ⟨hroute', hwanted', hfound', hgateway', -⟩ :=
        s.afterOtherStep.emptyEntry_reports w.next { e with candidates := kept, age := aged }
      have hentry := (hused he).1 hgone
      rw [hentry] at hroute hwanted hfound hgateway ⊢
      exact ⟨(hroute _).trans hroute', ⟨hwanted.trans hwanted', hfound.trans hfound'⟩, hgateway.trans hgateway'⟩
    case selected =>
      have hentry := (hused he).2 hstays
      have hreports := s.afterOtherStep.reselect_reports w.next { e with candidates := kept, age := aged }
      have hsame := s.afterOtherStep.route_reselect_same w.next { e with candidates := kept, age := aged }
      rw [hentry] at hroute hwanted hfound hgateway ⊢
      exact ⟨(hroute _).trans hsame, hreports.congr rfl rfl rfl hwanted hfound hgateway⟩
  case completes =>
    have ht := State.walkerStep_granted hg hw
    have hu : s.afterOtherStep.walkEntry w = _ := s.afterOtherStep.walkEntry_eq w
    obtain ⟨-, -, hsources⟩ := s.afterOtherStep.walkEntry_kept w
    have hpending (e : EventSource) (he : e ∉ [.routeFound, .gatewayChange]) :
        (s.afterOtherStep.walkEntry w).pendingOf e = s.pendingOf e := (hsources e).2.2 he
    rw [State.advanceWalk_completes hlast, State.completeWalk_eq] at ht
    generalize s.afterOtherStep.walkEntry w = u at *
    have hkept : u.walker = s.walker ∧ u.purge = s.purge ∧ u.command = s.command ∧ u.links = s.links ∧ u.engine = s.engine := by
      rw [hu]
      exact ⟨rfl, rfl, rfl, rfl, rfl⟩
    obtain ⟨hwalker, hpurge, hcommand, hlinks, hengine⟩ := hkept
    have hlink (i : LinkIx) : u.link i = s.link i := congrArg (·[i.val]) hlinks
    have hruns' : u.engineRuns = true := State.engineRuns_iff.2 (hengine ▸ hruns)
    refine ⟨_, congrArg Host.Outcome.next ht, fun i hi => ?freed, fun i hi => ?stays, fun hnodup => ?set, ?purgeDone,
      fun hf => ⟨?done, ?commandDone⟩, fun hf => ⟨?command, ?unfinished⟩, fun h h' h'' => ?idle, fun h => ?again⟩
    case freed => exact (link_foldl_freeEvicted u w.evict i).trans (if_pos hi)
    case stays => exact ((link_foldl_freeEvicted u w.evict i).trans (if_neg hi)).trans (hlink i)
    case set =>
      refine (State.purgeSet_foldl_freeEvicted hnodup u).trans ?_
      have hname (i : LinkIx) : u.linkName i = s.linkName i := by rw [State.linkName, hlink]; rfl
      rw [hpurge]
      exact List.filter_congr fun n _ => decide_eq_decide.2 (by simp only [hname])
    case purgeDone =>
      show ((u.raiseIf (u.purgedBy w) .purgeDone).raiseIf w.flush .commandDone).pendingOf .purgeDone = _
      rw [State.pendingOf_raiseIf, State.pendingOf_raiseIf, hpending .purgeDone (by decide)]
      have hpurged : u.purgedBy w = decide (∃ i ∈ w.evict, (s.link i).state = .purging) := by
        rw [Bool.eq_iff_iff, decide_eq_true_eq]
        simp [State.purgedBy, hlink]
      rw [hpurged]
      simp
    case done => exact (if_pos hf).trans (by rw [hcommand])
    case commandDone =>
      show ((u.raiseIf (u.purgedBy w) .purgeDone).raiseIf w.flush .commandDone).pendingOf .commandDone = _
      rw [State.pendingOf_raiseIf, hf]
      simp
    case command => exact (if_neg (by rw [hf]; decide)).trans hcommand
    case unfinished =>
      show ((u.raiseIf (u.purgedBy w) .purgeDone).raiseIf w.flush .commandDone).pendingOf .commandDone = _
      rw [State.pendingOf_raiseIf, State.pendingOf_raiseIf, hf, hpending .commandDone (by decide)]
      simp
    case idle =>
      refine (if_pos hruns').trans ?_
      rw [hwalker]
      refine Walker.begun_idle fun hwork => ?_
      rcases (Walker.hasWork_iff _).1 hwork with hwork | hwork | hwork
      · exact absurd (h.symm.trans hwork) nofun
      · exact absurd (h'.symm.trans hwork) nofun
      · exact hwork h''
    case again =>
      refine (if_pos hruns').trans ?_
      rw [hwalker]
      exact Walker.begun_begins rfl ((Walker.hasWork_iff _).2 h)

end Sys2Proof.Machine
end

section
/-! PROOFS. The learning step (O33). -/

namespace Sys2Proof.Machine

variable {s t u : State}

/-! ### The candidate update -/

/-- The candidate that a newcomer may replace is the first of greatest total (R104). -/
theorem State.victim_eq (s : State) (e : RouteEntry) :
    s.victim e = firstBest (fun c d => s.candidateTotal d < s.candidateTotal c)
      (e.candidates.filter fun c => choiceLink e.primary != some c.link) := by
  unfold State.victim firstBest
  refine congrArg (fun f => List.foldl f none _) (funext fun b => funext fun c => ?_)
  cases b <;> rfl

/-- A candidate over the primary link is no victim, in the words of the statements. -/
theorem choiceLink_ne_iff (p : Option Choice) (c : Candidate) :
    (choiceLink p != some c.link) = true ↔ ¬∃ x, p = some x ∧ x.link = c.link := by
  rw [bne_iff_ne, ne_eq, choiceLink_eq_some]

/-- The victim of a candidate list that is split at it (R104). -/
theorem State.victim_of_split {e : RouteEntry} {front back : List Candidate} {v : Candidate}
    (hsplit : e.candidates = front ++ v :: back) (hv : ¬∃ x, e.primary = some x ∧ x.link = v.link)
    (hfront : ∀ c ∈ front, (∃ x, e.primary = some x ∧ x.link = c.link) ∨ s.candidateTotal c < s.candidateTotal v)
    (hback : ∀ c ∈ back, (∃ x, e.primary = some x ∧ x.link = c.link) ∨ s.candidateTotal c ≤ s.candidateTotal v) :
    s.victim e = some v := by
  have hkept : (choiceLink e.primary != some v.link) = true := (choiceLink_ne_iff _ _).2 hv
  rw [State.victim_eq, hsplit, List.filter_append, List.filter_cons, if_pos hkept]
  refine firstBest_of_split (fun c hc => ?_) (fun c hc => ?_)
  · obtain ⟨hmem, hspared⟩ := List.mem_filter.1 hc
    exact (hfront c hmem).resolve_left ((choiceLink_ne_iff _ _).1 hspared)
  · obtain ⟨hmem, hspared⟩ := List.mem_filter.1 hc
    exact Nat.not_lt.2 ((hback c hmem).resolve_left ((choiceLink_ne_iff _ _).1 hspared))

/-- A candidate leaves a list of different links alone. -/
theorem filter_link_ne {front back : List Candidate} {v : Candidate}
    (h : ((front ++ v :: back).map fun c => c.link).Nodup) :
    (front ++ v :: back).filter (fun c => c.link != v.link) = front ++ back := by
  have hne : ∀ c ∈ front ++ back, (c.link != v.link) = true := by
    intro c hc
    rw [bne_iff_ne]
    intro heq
    rw [List.map_append, List.map_cons] at h
    have hnot := (List.nodup_cons.1 (List.perm_middle.nodup_iff.1 h)).1
    rw [← List.map_append] at hnot
    exact hnot (List.mem_map.2 ⟨c, hc, heq⟩)
  rw [List.filter_append, List.filter_cons_of_neg (by simp), ← List.filter_append, List.filter_eq_self.2 hne]

/-- The candidate that an offer makes. -/
def Offer.candidate (x : Offer) (i : LinkIx) : Candidate := { link := i, stamp := x.stamp, heard := x.seq }

/-- An offer changes the candidates alone. -/
theorem State.withOffer_eq (s : State) (e : RouteEntry) (i : LinkIx) (x : Offer) :
    s.withOffer e i x = { e with candidates := (s.withOffer e i x).candidates } := by
  unfold State.withOffer
  dsimp only
  split
  · rfl
  · split
    · rfl
    · split
      · rfl
      · split <;> rfl

/-- The candidate update (R104). -/
theorem State.withOffer_offered (s : State) (e : RouteEntry) (i : LinkIx) (x : Offer) :
    s.offered e (x.candidate i) (s.withOffer e i x).candidates := by
  have hany : (e.candidates.any fun c => c.link == i) = true ↔ ∃ c ∈ e.candidates, c.link = i := by simp
  refine ⟨fun hlisted => ?_, fun hnew hroom => ?_, fun hnew hfull hnodup front v back hsplit hv hfront hback => ?_⟩
  · unfold State.withOffer
    dsimp only
    rw [if_pos (hany.2 hlisted)]
    rfl
  · have hunlisted : ¬∃ c ∈ e.candidates, c.link = i := fun ⟨c, hc, h⟩ => hnew c hc h
    unfold State.withOffer
    dsimp only
    rw [if_neg (mt hany.1 hunlisted), if_pos (show e.candidates.length < Config.maxCandidates from hroom)]
    rfl
  · have hunlisted : ¬∃ c ∈ e.candidates, c.link = i := fun ⟨c, hc, h⟩ => hnew c hc h
    have hvictim : s.victim e = some v := State.victim_of_split hsplit hv hfront hback
    have hout : s.withOffer e i x =
        if s.candidateTotal (x.candidate i) < s.candidateTotal v then
          { e with candidates := e.candidates.filter (fun c => c.link != v.link) ++ [x.candidate i] }
        else e := by
      unfold State.withOffer
      dsimp only
      rw [if_neg (mt hany.1 hunlisted), if_neg (show ¬e.candidates.length < Config.maxCandidates from Nat.not_lt.2 hfull),
        hvictim]
      rfl
    refine ⟨fun hless => ?_, fun hmore => ?_⟩
    · rw [hout, if_pos (show s.candidateTotal (x.candidate i) < s.candidateTotal v from hless)]
      dsimp only
      rw [hsplit, filter_link_ne (hsplit ▸ hnodup)]
    · rw [hout, if_neg (show ¬s.candidateTotal (x.candidate i) < s.candidateTotal v from Nat.not_lt.2 hmore)]

/-- The candidates and the primary decide an offer. -/
theorem State.offered.congr {e e' : RouteEntry} {c : Candidate} {out : List Candidate} (h : s.offered e c out)
    (candidates : e'.candidates = e.candidates) (primary : e'.primary = e.primary) : s.offered e' c out := by
  unfold State.offered at h ⊢
  rw [candidates, primary]
  exact h

/-! ### Storage after the step -/

/-- Storage goes to the waiting request of the highest class (R104). -/
theorem State.firstWaiting_eq_some (s : State) (r : Requester) :
    s.firstWaiting = some r ↔ s.asks r ∧ ∀ r', s.asks r' → s.classOf r ≤ s.classOf r' := by
  have hnever : ¬s.asks .verdict := id
  have hall {P : Requester → Prop} : (∀ r', s.asks r' → P r') ↔
      (s.asks .overlay → P .overlay) ∧ (s.asks .command → P .command) ∧ (s.asks .walker → P .walker) := by
    refine ⟨fun h => ⟨h _, h _, h _⟩, fun ⟨ho, hc, hw⟩ r' hr' => ?_⟩
    cases r' with
    | verdict => exact absurd hr' hnever
    | overlay => exact ho hr'
    | command => exact hc hr'
    | walker => exact hw hr'
  have hfind : s.firstWaiting =
      if s.otherRequests .overlay then some .overlay
      else if s.otherRequests .command then some .command
      else if s.otherRequests .walker then some .walker else none := by
    unfold State.firstWaiting
    simp only [List.find?]
    cases s.otherRequests .overlay <;> cases s.otherRequests .command <;> cases s.otherRequests .walker <;> rfl
  rw [hfind, hall]
  by_cases ho : s.asks .overlay
  · rw [if_pos ((s.otherRequests_iff _).2 ho)]
    cases r <;> simp [ho, hnever, State.classOf]
  · rw [if_neg (mt (s.otherRequests_iff _).1 ho)]
    by_cases hc : s.asks .command
    · rw [if_pos ((s.otherRequests_iff _).2 hc)]
      cases r <;> simp [ho, hc, hnever, State.classOf]
    · rw [if_neg (mt (s.otherRequests_iff _).1 hc)]
      by_cases hw : s.asks .walker
      · rw [if_pos ((s.otherRequests_iff _).2 hw)]
        cases r <;> simp [ho, hc, hw, hnever, State.classOf]
      · rw [if_neg (mt (s.otherRequests_iff _).1 hw)]
        cases r <;> simp [ho, hc, hw, hnever]

/-! ### The step -/

/-- The learning step that is granted (R99, R101). -/
theorem State.learningStep_granted {l : Landing} {m : PortMask} {perm : Bool} (hg : s.granted .verdict = true)
    (hw : s.verdicts.work = some { landing := l, phase := .learning m perm }) : s.learningStep = s.learn l m perm := by
  unfold State.learningStep
  rw [if_pos hg, hw]

/-- With no link to learn over the notice is absorbed (R101). -/
theorem State.learn_unheard {l : Landing} (h : ∀ i, s.findLink l.link = some i → ¬heardState (s.link i).state)
    (m : PortMask) (perm : Bool) : s.learn l m perm = s.conclude l (.plain .absorb) := by
  unfold State.learn
  cases hf : s.findLink l.link with
  | none => rfl
  | some i => exact if_neg fun he => h i hf ((LinkState.estimated_iff _).1 he)

/-- A notice over a heard link finds its origin's entry, takes one, or finds the table full (R101, R102). -/
theorem State.learn_heard {l : Landing} {i : LinkIx} (hi : s.findLink l.link = some i) (h : heardState (s.link i).state)
    (m : PortMask) (perm : Bool) :
    s.learn l m perm =
      match s.findRoute (hdrOrigin l.words) with
      | some r =>
        match (s.route r).afterSequence l.offer with
        | none => s.conclude l (.plain .absorb)
        | some e => s.learned l m perm i r e
      | none =>
        match s.takeable with
        | some r =>
          s.learned l m perm i r
            (RouteEntry.taken (hdrOrigin l.words) (some (hdrSequence l.words)) (hdrGateway l.words))
        | none => ((s.count .tableFull).raise .tableFull).conclude l (.plain .absorb) := by
  unfold State.learn
  rw [hi]
  dsimp only
  exact if_pos ((LinkState.estimated_iff _).2 h)

/-- The computation goes on to wait for the choosing step, behind the waiting request of the highest class (R104). -/
def State.learnsOn (s t : State) (l : Landing) (m : PortMask) (perm : Bool) (i : LinkIx) : Prop :=
  (∃ first : Option Requester,
    t.verdicts = { s.verdicts with work := some { landing := l, phase := .choosing m perm i first } } ∧
    (∀ r, first = some r ↔ s.asks r ∧ ∀ r', s.asks r' → s.classOf r ≤ s.classOf r')) ∧
  t.slots = s.slots ∧ t.mem = s.mem ∧ t.bus = s.bus ∧ t.counters = s.counters ∧ t.events = s.events

/-- What a learned notice leaves (R104). -/
theorem State.learned_goesOn (s : State) (l : Landing) (m : PortMask) (perm : Bool) (i : LinkIx) (r : RouteIx)
    (e : RouteEntry) :
    let t := s.learned l m perm i r e
    s.learnsOn t l m perm i ∧ (∀ j, j ≠ r → t.route j = s.route j) ∧ t.route r = s.withOffer e i l.offer ∧
      t.links = s.links ∧ t.wanted = s.wanted ∧ t.walker = s.walker :=
  ⟨⟨⟨s.firstWaiting, rfl, s.firstWaiting_eq_some⟩, rfl, rfl, rfl, rfl, rfl⟩, fun _ hj => s.route_setRoute_other _ hj,
    s.route_setRoute_same r _, rfl, rfl, rfl⟩

/-- A notice is absorbed (R41, R62). -/
theorem State.conclude_absorbs (s : State) (l : Landing) :
    let t := s.conclude l (.plain .absorb)
    s.ends t l .absorb 0 none ∧ t.routes = s.routes ∧ t.counters = countedAt s.counters 4 ∧ t.events = s.events ∧
      t.links = s.links ∧ t.wanted = s.wanted ∧ t.walker = s.walker := by
  obtain ⟨hlinks, hwalker, hroutes, hwanted, hevents⟩ := s.conclude_kept l (.plain .absorb)
  exact ⟨State.conclude_ends s l rfl, hroutes, State.conclude_counters s l _, hevents, hlinks, hwanted, hwalker⟩

/-- A difference of sequences that is not newer is equal or stale (R103). -/
theorem stale_of_not_newer {q p : Half} (hne : q ≠ p) (h : ¬(0 < (q - p).toNat ∧ (q - p).toNat < 32768)) :
    32768 ≤ (q - p).toNat := by
  have hpos : (q - p).toNat ≠ 0 := by
    intro h0
    refine hne (BitVec.eq_of_toNat_eq ?_)
    have := q.isLt
    have := p.isLt
    rw [BitVec.toNat_sub] at h0
    omega
  omega

/-- A stale sequence (R103). -/
theorem RouteEntry.afterSequence_stale {e : RouteEntry} {x : Offer} {q : Half} (hq : e.latest = some q) (hne : x.seq ≠ q)
    (h : ¬(0 < (x.seq - q).toNat ∧ (x.seq - q).toNat < 32768)) : e.afterSequence x = none :=
  ((sequenceTestIsR103 e x).2 q hq).2.2 (stale_of_not_newer hne h)

/-- An entry whose sequence test a notice passed: an equal sequence leaves age and flag (R103). -/
def RouteEntry.renewed (e : RouteEntry) (x : Offer) : RouteEntry :=
  if e.latest = some x.seq then e else { e with latest := some x.seq, age := 0, gateway := x.gateway }

/-- What a passed sequence test leaves of an entry. -/
theorem RouteEntry.renewed_eq (e : RouteEntry) (x : Offer) :
    e.renewed x = { e with latest := some x.seq, age := (e.renewed x).age, gateway := (e.renewed x).gateway } := by
  unfold RouteEntry.renewed
  split
  next h => rw [← h]
  next => rfl

/-- The age and the flag after a passed sequence test (R103). -/
theorem RouteEntry.renewed_age_gateway (e : RouteEntry) (x : Offer) :
    if e.latest = some x.seq then (e.renewed x).age = e.age ∧ (e.renewed x).gateway = e.gateway
    else (e.renewed x).age = 0 ∧ (e.renewed x).gateway = x.gateway := by
  unfold RouteEntry.renewed
  split
  · exact ⟨rfl, rfl⟩
  · exact ⟨rfl, rfl⟩

/-- A sequence that is taken (R103). -/
theorem RouteEntry.afterSequence_taken {e : RouteEntry} {x : Offer}
    (h : e.latest = none ∨
      ∃ q, e.latest = some q ∧ (x.seq = q ∨ (0 < (x.seq - q).toNat ∧ (x.seq - q).toNat < 32768))) :
    e.afterSequence x = some (e.renewed x) := by
  unfold RouteEntry.renewed
  obtain ⟨hnone, hsome⟩ := sequenceTestIsR103 e x
  rcases h with h | ⟨q, hq, h | h⟩
  · rw [hnone h, if_neg (by rw [h]; exact nofun)]
  · rw [(hsome q hq).2.1 h, if_pos (by rw [hq, h])]
  · have hne : x.seq ≠ q := by
      rintro rfl
      simp at h
    rw [(hsome q hq).1 ⟨h.1, Nat.le_of_lt_succ h.2⟩, if_neg fun heq => hne (Option.some.inj (heq.symm.trans hq))]

/-- Settles O33: the link, the entry and the sequence decide how the step ends. -/
theorem learningStepResult : Obligations.LearningStepResult := by
  intro l m perm s hg hw o q absorbs goesOn
  have ht : exec .noticeLearningStep s = .next (s.learn l m perm) :=
    congrArg Host.Outcome.next (State.learningStep_granted hg hw)
  by_cases hheard : ∃ i, s.findLink l.link = some i ∧ heardState (s.link i).state
  case neg =>
    have hunheard (i : LinkIx) (hi : s.findLink l.link = some i) (h : heardState (s.link i).state) : False :=
      hheard ⟨i, hi, h⟩
    obtain ⟨hends, hroutes, hcounters, hevents, hlinks, hwanted, hwalker⟩ := s.conclude_absorbs l
    exact ⟨_, ht.trans (congrArg Host.Outcome.next (State.learn_unheard hunheard m perm)), hlinks, hwanted, hwalker,
      fun _ => ⟨⟨hends, hroutes⟩, hcounters, hevents⟩, fun i hi h => (hunheard i hi h).elim⟩
  case pos =>
    obtain ⟨i, hi, hstate⟩ := hheard
    have hlearn := State.learn_heard hi hstate m perm
    have hnot {P : Prop} (h : ∀ i, s.findLink l.link = some i → (s.link i).state = .lost ∨ (s.link i).state = .purging) :
        P := by
      rcases h i hi with h | h <;> rw [h] at hstate <;> simp [heardState] at hstate
    have hthis {P : LinkIx → Prop} (h : P i) (j : LinkIx) (hj : s.findLink l.link = some j) : P j :=
      Option.some.inj (hi.symm.trans hj) ▸ h
    cases hf : s.findRoute o with
    | some r =>
      have hlearn' : s.learn l m perm = match (s.route r).afterSequence l.offer with
          | none => s.conclude l (.plain .absorb)
          | some e => s.learned l m perm i r e := by
        rw [hlearn, show s.findRoute (hdrOrigin l.words) = some r from hf]
      have hentry {P : RouteIx → Prop} (h : P r) (r' : RouteIx) (hr' : some r = some r') : P r' :=
        Option.some.inj hr' ▸ h
      by_cases hstale : ∃ q', (s.route r).latest = some q' ∧ q ≠ q' ∧ ¬(0 < (q - q').toNat ∧ (q - q').toNat < 32768)
      case pos =>
        obtain ⟨q', hq', hne, hold⟩ := hstale
        have hend : s.learn l m perm = s.conclude l (.plain .absorb) := by
          rw [hlearn', RouteEntry.afterSequence_stale (x := l.offer) hq' hne hold]
        obtain ⟨hends, hroutes, hcounters, hevents, hlinks, hwanted, hwalker⟩ := s.conclude_absorbs l
        refine ⟨_, ht.trans (congrArg Host.Outcome.next hend), hlinks, hwanted, hwalker, hnot,
          hthis fun _ => ⟨hentry ⟨fun _ _ _ _ => ⟨⟨hends, hroutes⟩, hcounters, hevents⟩, fun htaken => ?_⟩, nofun, nofun⟩⟩
        rcases htaken with h | ⟨p, hp, h⟩
        · rw [hq'] at h
          cases h
        · obtain rfl : q' = p := Option.some.inj (hq'.symm.trans hp)
          exact absurd h (not_or.2 ⟨hne, hold⟩)
      case neg =>
        have htaken : (s.route r).latest = none ∨
            ∃ q', (s.route r).latest = some q' ∧ (q = q' ∨ (0 < (q - q').toNat ∧ (q - q').toNat < 32768)) := by
          cases hlatest : (s.route r).latest with
          | none => exact .inl rfl
          | some q' => exact .inr ⟨q', rfl, Classical.byContradiction fun h => hstale ⟨q', hlatest, not_or.1 h⟩⟩
        have hend : s.learn l m perm = s.learned l m perm i r ((s.route r).renewed l.offer) := by
          rw [hlearn', RouteEntry.afterSequence_taken (x := l.offer) htaken]
        obtain ⟨hgoesOn, hother, hroute, hlinks, hwanted, hwalker⟩ :=
          s.learned_goesOn l m perm i r ((s.route r).renewed l.offer)
        have hrenewed := (s.route r).renewed_eq l.offer
        have hoffered := s.withOffer_offered ((s.route r).renewed l.offer) i l.offer
        refine ⟨_, ht.trans (congrArg Host.Outcome.next hend), hlinks, hwanted, hwalker, hnot,
          hthis fun _ => ⟨hentry ⟨fun q' hq' hne hold => absurd ⟨q', hq', hne, hold⟩ hstale, fun _ => ⟨hgoesOn, hother, ?_, ?_, ?_⟩⟩,
            nofun, nofun⟩⟩
        · rw [hroute, State.withOffer_eq, hrenewed]
          rfl
        · rw [hroute, State.withOffer_eq]
          exact (s.route r).renewed_age_gateway l.offer
        · rw [hroute]
          exact hoffered.congr (by rw [hrenewed]) (by rw [hrenewed])
    | none =>
      have hlearn' : s.learn l m perm = match s.takeable with
          | some r =>
            s.learned l m perm i r
              (RouteEntry.taken (hdrOrigin l.words) (some (hdrSequence l.words)) (hdrGateway l.words))
          | none => ((s.count .tableFull).raise .tableFull).conclude l (.plain .absorb) := by
        rw [hlearn, show s.findRoute (hdrOrigin l.words) = none from hf]
      cases htake : s.takeable with
      | some r =>
        rw [htake] at hlearn'
        obtain ⟨hgoesOn, hother, hroute, hlinks, hwanted, hwalker⟩ := s.learned_goesOn l m perm i r
          (RouteEntry.taken (hdrOrigin l.words) (some (hdrSequence l.words)) (hdrGateway l.words))
        have htaken {P : RouteIx → Prop} (h : P r) (r' : RouteIx) (hr' : some r = some r') : P r' :=
          Option.some.inj hr' ▸ h
        refine ⟨_, ht.trans (congrArg Host.Outcome.next hlearn'), hlinks, hwanted, hwalker, hnot,
          hthis fun _ => ⟨nofun, fun _ => htaken ⟨hgoesOn, hother, ?_⟩, nofun⟩⟩
        rw [hroute]
        rfl
      | none =>
        rw [htake] at hlearn'
        obtain ⟨hends, hroutes, hcounters, hevents, hlinks, hwanted, hwalker⟩ :=
          ((s.count .tableFull).raise .tableFull).conclude_absorbs l
        exact ⟨_, ht.trans (congrArg Host.Outcome.next hlearn'), hlinks, hwanted, hwalker, hnot,
          hthis fun _ => ⟨nofun, nofun, fun _ _ => ⟨⟨hends.of_kept rfl rfl rfl rfl rfl, hroutes⟩, hcounters, hevents⟩⟩⟩

end Sys2Proof.Machine
end

section
/-! PROOFS. The stages: what they decide, and what a frame leaves in the tables (for O27 and O31). -/

namespace Sys2Proof.Machine

variable {s t u : State}

/-! ### What the stages decide -/

/-- A malformed frame, in the words of the statements (R45). -/
theorem Landing.malformed_iff (l : Landing) :
    l.malformed = true ↔ l.length < 20 ∨ (∃ w : HeaderIx, l.marks[w.val] ≠ 0xF#4) ∨ hdrOrigin l.words = 0 ∨
      hdrOrigin l.words = 0xFFFF#16 ∨ (3 ≤ hdrKind l.words ∧ hdrKind l.words ≤ 11) := by
  have hmarks : allComplete l.marks = false ↔ ∃ w : HeaderIx, l.marks[w.val] ≠ 0xF#4 := by
    rw [← Bool.not_eq_true, allComplete_iff, Classical.not_forall]
  simp only [Landing.malformed, Bool.or_eq_true, Bool.and_eq_true, Bool.not_eq_true', decide_eq_true_eq, hmarks, notANode,
    broadcast, beq_iff_eq, or_assoc]

/-- The flood cache holds a pair, in the words of the statements (R52). -/
theorem State.floodHolds_iff (s : State) (o q : Half) :
    s.floodHolds o q = true ↔ ∃ f ∈ s.verdicts.flood, f.origin = o ∧ f.seq = q := by
  simp [State.floodHolds]

/-- What stages 1 to 5 decide (R43 to R47). -/
def State.earlyVerdict (s : State) (l : Landing) : Option Verdict :=
  if l.linkError = true then some (.plain .dropLinkError)
  else if l.malformed = true then some (.plain .dropMalformed)
  else if checkOf s.identity.realmSeed l.words ≠ hdrCheck l.words then some (.plain .dropCheck)
  else if 12 ≤ hdrKind l.words then some (.plain .deliver)
  else if hdrReceiver l.words ≠ s.identity.ownNode ∧ hdrReceiver l.words ≠ broadcast then some (.refused .notMine)
  else if hdrTransmitter l.words ∈ s.purge.bars then some (.refused .barred)
  else none

/-- What stages 6 to 8 decide (R48 to R53). -/
def State.kindVerdict (s : State) (l : Landing) : Option Verdict :=
  if hdrKind l.words = 1 then some (.plain .absorb)
  else if hdrKind l.words = 2 then
    if hdrOrigin l.words = s.identity.ownNode then some (.plain .absorb) else none
  else if hdrOrigin l.words = s.identity.ownNode then some (.refused .loop)
  else if hdrFinal l.words = s.identity.ownNode then some (.plain .deliver)
  else if hdrFinal l.words = broadcast then
    if s.floodHolds (hdrOrigin l.words) (hdrSequence l.words) = true then some (.plain .dropDuplicate)
    else if 1 ≤ hdrBudget l.words ∧ s.livePorts ≠ 0 then some (.masked .flood s.livePorts)
    else some (.plain .deliver)
  else if s.engine.state ≠ .forwarding then some (.plain .undecided)
  else if hdrBudget l.words = 0 then some (.plain .dropBudget)
  else none

/-- What the stages decide (R43). -/
def State.decision (s : State) (l : Landing) : Option Verdict :=
  match s.earlyVerdict l with
  | some v => some v
  | none => s.kindVerdict l

/-- A verdict's code, mask and reason. -/
def Verdict.parts (v : Verdict) : VerdictCode × PortMask × Option RefusalReason := (v.code, v.mask, v.reason)

/-- What stages 6 to 8 decide, in the words of the statements. -/
theorem State.kindVerdict_parts (s : State) (l : Landing) :
    (s.kindVerdict l).map Verdict.parts =
      if hdrKind l.words = 1 then some (.absorb, 0, none)
      else if hdrKind l.words = 2 then
        (if hdrOrigin l.words = s.identity.ownNode then some (.absorb, 0, none) else none)
      else if hdrOrigin l.words = s.identity.ownNode then some (.dropRefused, 0, some .loop)
      else if hdrFinal l.words = s.identity.ownNode then some (.deliver, 0, none)
      else if hdrFinal l.words = 0xFFFF#16 then
        (if ∃ f ∈ s.verdicts.flood, f.origin = hdrOrigin l.words ∧ f.seq = hdrSequence l.words then
          some (.dropDuplicate, 0, none)
        else if 1 ≤ hdrBudget l.words ∧ s.livePorts ≠ 0 then some (.flood, s.livePorts, none) else some (.deliver, 0, none))
      else if s.engine.state ≠ .forwarding then some (.undecided, 0, none)
      else if hdrBudget l.words = 0 then some (.dropBudget, 0, none)
      else none := by
  unfold State.kindVerdict
  simp only [apply_ite (Option.map Verdict.parts), State.floodHolds_iff]
  rfl

/-- The stages' decision, in the words of the statements. -/
theorem State.decision_parts (s : State) (l : Landing) : (s.decision l).map Verdict.parts = s.stageVerdict l := by
  unfold State.decision State.earlyVerdict State.stageVerdict
  dsimp only
  by_cases herror : l.linkError = true
  · rw [if_pos herror, if_pos herror]
    rfl
  rw [if_neg herror, if_neg herror]
  by_cases hmalformed : l.malformed = true
  · rw [if_pos hmalformed, if_pos (l.malformed_iff.1 hmalformed)]
    rfl
  rw [if_neg hmalformed, if_neg (mt l.malformed_iff.2 hmalformed)]
  by_cases hcheck : checkOf s.identity.realmSeed l.words ≠ hdrCheck l.words
  · rw [if_pos hcheck, if_pos (show headerCheck _ l.words[1] l.words[2] l.words[3] l.words[4] ≠ _ from hcheck)]
    rfl
  rw [if_neg hcheck, if_neg (show ¬headerCheck _ l.words[1] l.words[2] l.words[3] l.words[4] ≠ _ from hcheck)]
  by_cases hkind : 12 ≤ hdrKind l.words
  · rw [if_pos hkind, if_pos hkind]
    rfl
  rw [if_neg hkind, if_neg hkind]
  by_cases hreceiver : hdrReceiver l.words ≠ s.identity.ownNode ∧ hdrReceiver l.words ≠ broadcast
  · rw [if_pos hreceiver, if_pos (show hdrReceiver l.words ≠ _ ∧ hdrReceiver l.words ≠ 0xFFFF#16 from hreceiver)]
    rfl
  rw [if_neg hreceiver, if_neg (show ¬(hdrReceiver l.words ≠ _ ∧ hdrReceiver l.words ≠ 0xFFFF#16) from hreceiver)]
  by_cases hbarred : hdrTransmitter l.words ∈ s.purge.bars
  · rw [if_pos hbarred, if_pos hbarred]
    rfl
  rw [if_neg hbarred, if_neg hbarred]
  exact s.kindVerdict_parts l

/-- Stages 6 to 8 decide a frame whose kind is at most 2 (R45, R46). -/
theorem State.kind_le_of_late {l : Landing} (h : s.earlyVerdict l = none) : hdrKind l.words ≤ 2 := by
  unfold State.earlyVerdict at h
  by_cases herror : l.linkError = true
  · rw [if_pos herror] at h
    cases h
  rw [if_neg herror] at h
  by_cases hmalformed : l.malformed = true
  · rw [if_pos hmalformed] at h
    cases h
  rw [if_neg hmalformed] at h
  by_cases hcheck : checkOf s.identity.realmSeed l.words ≠ hdrCheck l.words
  · rw [if_pos hcheck] at h
    cases h
  rw [if_neg hcheck] at h
  by_cases hkind : 12 ≤ hdrKind l.words
  · rw [if_pos hkind] at h
    cases h
  have hform := mt l.malformed_iff.2 hmalformed
  simp only [not_or] at hform
  obtain ⟨-, -, -, -, hrange⟩ := hform
  omega

/-- A frame that stages 1 to 5 decide does not pass stage 5 (R48). -/
theorem State.early_not_passes {l : Landing} {v : Verdict} (h : s.earlyVerdict l = some v) :
    ¬(v.code ∉ [.dropLinkError, .dropMalformed, .dropCheck] ∧ v.reason ∉ [some .notMine, some .barred] ∧
      hdrKind l.words ≤ 2) := by
  unfold State.earlyVerdict at h
  rintro ⟨hcode, hreason, hkind⟩
  repeat' split at h
  all_goals cases h
  · exact hcode (by decide)
  · exact hcode (by decide)
  · exact hcode (by decide)
  · omega
  · exact hreason (by decide)
  · exact hreason (by decide)

/-- A frame that stages 6 to 8 decide passed stage 5 (R48). -/
theorem State.late_passes {l : Landing} {v : Verdict} (h : s.kindVerdict l = some v) :
    v.code ∉ [.dropLinkError, .dropMalformed, .dropCheck] ∧ v.reason ∉ [some .notMine, some .barred] := by
  unfold State.kindVerdict at h
  repeat' split at h
  all_goals cases h
  all_goals simp [Verdict.plain, Verdict.masked, Verdict.refused]

/-- A frame passes stage 5 when the stages before decide nothing (R48). -/
theorem State.passesStage5_iff (s : State) (l : Landing) : s.passesStage5 l ↔ s.earlyVerdict l = none := by
  unfold State.passesStage5
  rw [← State.decision_parts, State.decision]
  cases hearly : s.earlyVerdict l with
  | some v => exact ⟨fun h => absurd h (State.early_not_passes hearly), nofun⟩
  | none =>
    refine ⟨fun _ => rfl, fun _ => ?_⟩
    have hkind := State.kind_le_of_late hearly
    cases hlate : s.kindVerdict l with
    | none => trivial
    | some v =>
      obtain ⟨hcode, hreason⟩ := State.late_passes hlate
      exact ⟨hcode, hreason, hkind⟩

/-- A decision names no link. -/
theorem State.decision_link {l : Landing} {v : Verdict} (h : s.decision l = some v) : v.link = none := by
  unfold State.decision at h
  cases hearly : s.earlyVerdict l with
  | some w =>
    rw [hearly] at h
    cases h
    unfold State.earlyVerdict at hearly
    repeat' split at hearly
    all_goals cases hearly
    all_goals rfl
  | none =>
    rw [hearly] at h
    dsimp only at h
    unfold State.kindVerdict at h
    repeat' split at h
    all_goals cases h
    all_goals rfl

end Sys2Proof.Machine
end

section
/-! PROOFS. What a frame leaves in the neighbour table and the flood cache (for O27 and O31). -/

namespace Sys2Proof.Machine

variable {s t u : State}

/-! ### Links that keep state, node and port -/

/-- Every entry has the state, the node and the port that it had. -/
def State.linksAlike (s t : State) : Prop :=
  ∀ i, (t.link i).state = (s.link i).state ∧ (t.link i).node = (s.link i).node ∧ (t.link i).port = (s.link i).port

/-- An entry replaced by one with its state, node and port. -/
theorem State.linksAlike_setLink {i : LinkIx} {k : Link} (hstate : k.state = (s.link i).state)
    (hnode : k.node = (s.link i).node) (hport : k.port = (s.link i).port) : s.linksAlike (s.setLink i k) := by
  intro j
  by_cases hj : j = i
  · rw [hj, State.link_setLink_same]
    exact ⟨hstate, hnode, hport⟩
  · rw [State.link_setLink_other s k hj]
    exact ⟨rfl, rfl, rfl⟩

/-- A link is found where it was. -/
theorem State.linksAlike.findLink (h : s.linksAlike t) (n : LinkName) : t.findLink n = s.findLink n := by
  unfold State.findLink
  have hfun : (fun i => (t.link i).state != .free && (t.link i).node == n.node && (t.link i).port == n.port) =
      fun i => (s.link i).state != .free && (s.link i).node == n.node && (s.link i).port == n.port := by
    funext i
    obtain ⟨hstate, hnode, hport⟩ := h i
    rw [hstate, hnode, hport]
  rw [hfun]

/-- The stale-link flag stays. -/
theorem State.linksAlike.staleFlag (h : s.linksAlike t) (n : LinkName) : t.staleFlag n = s.staleFlag n := by
  unfold State.staleFlag
  rw [h.findLink]
  cases s.findLink n with
  | none => rfl
  | some i =>
    dsimp only
    rw [(h i).1]

/-- The ports with a LIVE link stay. -/
theorem State.linksAlike.livePorts (h : s.linksAlike t) : t.livePorts = s.livePorts := by
  have hlive : (fun (p : Port) (i : LinkIx) => t.isLive i && (t.link i).port == p) =
      fun p i => s.isLive i && (s.link i).port == p := by
    funext p i
    obtain ⟨hstate, -, hport⟩ := h i
    rw [State.isLive, State.isLive, hstate, hport]
  have hon (p : Port) : (allLinks.any fun i => t.isLive i && (t.link i).port == p) =
      allLinks.any fun i => s.isLive i && (s.link i).port == p := congrArg allLinks.any (congrFun hlive p)
  unfold State.livePorts
  simp only [hon]

/-! ### The update of a frame -/

/-- The update of a frame over a heard link (R48). -/
theorem State.updateLinkFromFrame_heard {l : Landing} {i : LinkIx} (hi : s.findLink l.link = some i)
    (h : heardState (s.link i).state) :
    s.updateLinkFromFrame l.link l.signal l.rate = s.setLink i ((s.link i).updatedBy l) := by
  unfold State.updateLinkFromFrame
  rw [hi]
  exact if_pos ((LinkState.estimated_iff _).2 h)

/-- A frame without a heard link updates none (R48). -/
theorem State.updateLinkFromFrame_unheard {l : Landing}
    (h : ∀ i, s.findLink l.link = some i → ¬heardState (s.link i).state) :
    s.updateLinkFromFrame l.link l.signal l.rate = s := by
  unfold State.updateLinkFromFrame
  cases hf : s.findLink l.link with
  | none => rfl
  | some i => exact if_neg (mt (LinkState.estimated_iff _).1 (h i hf))

/-- The update of a frame keeps states, nodes and ports (R48). -/
theorem State.updateLinkFromFrame_alike (s : State) (l : Landing) :
    s.linksAlike (s.updateLinkFromFrame l.link l.signal l.rate) := by
  by_cases h : ∃ i, s.findLink l.link = some i ∧ heardState (s.link i).state
  · obtain ⟨i, hi, hheard⟩ := h
    rw [State.updateLinkFromFrame_heard hi hheard]
    exact State.linksAlike_setLink rfl rfl rfl
  · rw [State.updateLinkFromFrame_unheard fun i hi hheard => h ⟨i, hi, hheard⟩]
    exact fun i => ⟨rfl, rfl, rfl⟩

/-! ### Hellos -/

/-- The Link Estimator takes the hello of a landing (R49). -/
def State.helloTaken (s : State) (l : Landing) : State := s.takeHello l.link l.signal (hdrSequence l.words)

/-- The transmitter of a hello names a neighbour (R65). -/
def State.namesNeighbour (s : State) (l : Landing) : Prop :=
  hdrTransmitter l.words ≠ 0 ∧ hdrTransmitter l.words ≠ 0xFFFF#16 ∧ hdrTransmitter l.words ≠ s.identity.ownNode

/-- The test of a hello's transmitter, in the words of the statements. -/
theorem State.namesNeighbour_iff (s : State) (l : Landing) :
    (notANode l.link.node || l.link.node == s.identity.ownNode) = false ↔ s.namesNeighbour l := by
  have hnode : l.link.node = hdrTransmitter l.words := rfl
  rw [hnode]
  unfold State.namesNeighbour notANode broadcast
  simp only [Bool.or_eq_false_iff, beq_eq_false_iff_ne, and_assoc]

/-- A hello that names no neighbour is ignored (R65). -/
theorem State.helloTaken_ignored {l : Landing} (h : ¬s.namesNeighbour l) : s.helloTaken l = s := by
  unfold State.helloTaken State.takeHello
  exact if_pos (Bool.not_eq_false _ |>.mp (mt (s.namesNeighbour_iff l).1 h))

/-- A hello of a heard link refreshes it (R67). -/
theorem State.helloTaken_refreshes {l : Landing} {i : LinkIx} (hn : s.namesNeighbour l)
    (hi : s.findLink l.link = some i) (h : heardState (s.link i).state) :
    s.helloTaken l = s.setLink i ((s.link i).refreshedBy l s.settings.signalFloor) := by
  unfold State.helloTaken State.takeHello
  rw [if_neg (by rw [(s.namesNeighbour_iff l).2 hn]; decide), hi]
  exact if_pos ((LinkState.estimated_iff _).2 h)

/-- A hello of a link that is being freed is ignored (R67). -/
theorem State.helloTaken_dying {l : Landing} {i : LinkIx} (hn : s.namesNeighbour l)
    (hi : s.findLink l.link = some i) (h : ¬heardState (s.link i).state) : s.helloTaken l = s := by
  unfold State.helloTaken State.takeHello
  rw [if_neg (by rw [(s.namesNeighbour_iff l).2 hn]; decide), hi]
  exact if_neg (mt (LinkState.estimated_iff _).1 h)

/-- The lowest FREE entry, in the words of the statements. -/
theorem State.freeLink_eq_some (s : State) (i : LinkIx) :
    s.freeLink = some i ↔ (s.link i).state = .free ∧ ∀ j, j < i → (s.link j).state ≠ .free := by
  unfold State.freeLink allLinks
  rw [find?_finRange_eq_some]
  simp

/-- No FREE entry, in the words of the statements. -/
theorem State.freeLink_eq_none (s : State) : s.freeLink = none ↔ ∀ i, (s.link i).state ≠ .free := by
  unfold State.freeLink allLinks
  rw [find?_finRange_eq_none]
  simp

/-- A hello of an unknown neighbour takes the lowest FREE entry (R66). -/
theorem State.helloTaken_creates {l : Landing} {i : LinkIx} (hn : s.namesNeighbour l) (hf : s.findLink l.link = none)
    (hi : s.freeLink = some i) : s.helloTaken l = s.setLink i (linkCreatedBy l s.settings.signalFloor) := by
  unfold State.helloTaken State.takeHello
  rw [if_neg (by rw [(s.namesNeighbour_iff l).2 hn]; decide), hf]
  dsimp only
  rw [hi]
  rfl

/-- A hello of an unknown neighbour finds the table full (R66). -/
theorem State.helloTaken_full {l : Landing} (hn : s.namesNeighbour l) (hf : s.findLink l.link = none)
    (hi : s.freeLink = none) : s.helloTaken l = (s.count .tableFull).raise .tableFull := by
  unfold State.helloTaken State.takeHello
  rw [if_neg (by rw [(s.namesNeighbour_iff l).2 hn]; decide), hf]
  dsimp only
  rw [hi]

/-- A link created by a hello is found (R65, R66). -/
theorem State.findLink_created {l : Landing} {i : LinkIx} (hn : s.namesNeighbour l) (hf : s.findLink l.link = none)
    (floor : Int) : (s.setLink i (linkCreatedBy l floor)).findLink l.link = some i := by
  rw [State.findLink_eq_some]
  obtain ⟨hzero, hbroadcast, -⟩ := hn
  refine ⟨⟨hzero, hbroadcast, ?_⟩, fun j hj hholds => ?_⟩
  · rw [State.link_setLink_same]
    exact ⟨nofun, rfl, rfl⟩
  · refine (s.findLink_eq_none_iff l.link).1 hf j ?_
    unfold State.holdsLink at hholds ⊢
    rwa [State.link_setLink_other s _ (Fin.ne_of_lt hj)] at hholds

/-! ### Stages 6 to 8 -/

/-- The frame is broadcast data whose pair the flood cache does not hold (R52). -/
def State.floodsNew (s : State) (l : Landing) : Bool :=
  decide (hdrKind l.words = 0 ∧ hdrOrigin l.words ≠ s.identity.ownNode ∧ hdrFinal l.words ≠ s.identity.ownNode ∧
    hdrFinal l.words = broadcast ∧ s.floodHolds (hdrOrigin l.words) (hdrSequence l.words) = false)

/-- The state that a frame which passes stage 5 leaves before its verdict (R48, R49, R52). -/
def State.framed (s : State) (l : Landing) : State :=
  let heard := if hdrKind l.words = 1 then s.helloTaken l else s
  let updated := heard.updateLinkFromFrame l.link l.signal l.rate
  if s.floodsNew l = true then
    { updated with verdicts :=
        { updated.verdicts with
          flood := insertFlood updated.verdicts.flood (hdrOrigin l.words) (hdrSequence l.words) } }
  else updated

/-- A hello (R48, R49). -/
theorem State.framed_hello {l : Landing} (h : hdrKind l.words = 1) :
    s.framed l = (s.helloTaken l).updateLinkFromFrame l.link l.signal l.rate := by
  have hnew : s.floodsNew l = false := decide_eq_false fun hc => by omega
  unfold State.framed
  rw [hnew, if_pos h, if_neg (by decide)]

/-- Another frame without a new pair (R48). -/
theorem State.framed_plain {l : Landing} (h : hdrKind l.words ≠ 1) (hnew : s.floodsNew l = false) :
    s.framed l = s.updateLinkFromFrame l.link l.signal l.rate := by
  unfold State.framed
  rw [hnew, if_neg h, if_neg (by decide)]

/-- A new pair joins the flood cache (R52). -/
theorem State.framed_flood {l : Landing} (hnew : s.floodsNew l = true) :
    let v := s.updateLinkFromFrame l.link l.signal l.rate
    s.framed l =
      { v with verdicts :=
          { v.verdicts with flood := insertFlood s.verdicts.flood (hdrOrigin l.words) (hdrSequence l.words) } } := by
  intro v
  have hkind : hdrKind l.words ≠ 1 := by
    have hc := of_decide_eq_true hnew
    omega
  have hflood : v.verdicts.flood = s.verdicts.flood := by
    rw [show v = _ from s.updateLinkFromFrame_eq l.link l.signal l.rate]
  unfold State.framed
  rw [hnew, if_neg hkind, if_pos rfl, ← hflood]

/-- What the stages after 5 read of the updated state. -/
theorem State.updated_reads (s : State) (l : Landing) :
    let v := s.updateLinkFromFrame l.link l.signal l.rate
    v.identity = s.identity ∧ v.verdicts = s.verdicts ∧ v.engine = s.engine ∧ v.livePorts = s.livePorts := by
  intro v
  have hlive := (s.updateLinkFromFrame_alike l).livePorts
  have hv : v = _ := s.updateLinkFromFrame_eq l.link l.signal l.rate
  refine ⟨?_, ?_, ?_, hlive⟩ <;> rw [hv]

/-- A notice (R50). -/
theorem State.stageNotice_eq {l : Landing} (h : hdrKind l.words = 2) :
    (s.updateLinkFromFrame l.link l.signal l.rate).stageNotice l =
      match s.kindVerdict l with
      | some v => (s.framed l).conclude l v
      | none => (s.framed l).await l (s.stepAwaited l) := by
  obtain ⟨hidentity, -, -, hlive⟩ := s.updated_reads l
  have hkind : hdrKind l.words ≠ 1 := by omega
  have hnew : s.floodsNew l = false := decide_eq_false fun hc => by omega
  rw [State.framed_plain hkind hnew]
  unfold State.stageNotice State.kindVerdict State.stepAwaited
  rw [hidentity, hlive, if_neg hkind, if_pos h, if_pos h]
  by_cases hown : hdrOrigin l.words = s.identity.ownNode
  · rw [if_pos hown, if_pos hown]
  · rw [if_neg hown, if_neg hown, Bool.decide_and]

/-- Data (R51 to R53). -/
theorem State.stageData_eq {l : Landing} (h : hdrKind l.words = 0) :
    (s.updateLinkFromFrame l.link l.signal l.rate).stageData l =
      match s.kindVerdict l with
      | some v => (s.framed l).conclude l v
      | none => (s.framed l).await l (s.stepAwaited l) := by
  obtain ⟨hidentity, hverdicts, hengine, hlive⟩ := s.updated_reads l
  have hkind : hdrKind l.words ≠ 1 := by omega
  unfold State.stageData State.kindVerdict State.stepAwaited
  rw [hidentity, hengine, if_neg hkind, if_neg (show hdrKind l.words ≠ 2 by omega), if_neg (show hdrKind l.words ≠ 2 by omega)]
  by_cases hown : hdrOrigin l.words = s.identity.ownNode
  · rw [if_pos hown, if_pos hown, State.framed_plain hkind (decide_eq_false fun hc => hc.2.1 hown)]
  rw [if_neg hown, if_neg hown]
  by_cases hfinal : hdrFinal l.words = s.identity.ownNode
  · rw [if_pos hfinal, if_pos hfinal, State.framed_plain hkind (decide_eq_false fun hc => hc.2.2.1 hfinal)]
  rw [if_neg hfinal, if_neg hfinal]
  by_cases hbroadcast : hdrFinal l.words = broadcast
  · rw [if_pos hbroadcast, if_pos hbroadcast]
    unfold State.stageBroadcast
    dsimp only
    have hholds : (s.updateLinkFromFrame l.link l.signal l.rate).floodHolds (hdrOrigin l.words) (hdrSequence l.words) =
        s.floodHolds (hdrOrigin l.words) (hdrSequence l.words) := by
      unfold State.floodHolds
      rw [hverdicts]
    rw [hholds]
    by_cases hseen : s.floodHolds (hdrOrigin l.words) (hdrSequence l.words) = true
    · rw [if_pos hseen, if_pos hseen, State.framed_plain hkind (decide_eq_false fun hc => by rw [hseen] at hc; simp at hc)]
    · have hnew : s.floodsNew l = true :=
        decide_eq_true ⟨h, hown, hfinal, hbroadcast, Bool.not_eq_true _ |>.mp hseen⟩
      have hports : (s.framed l).livePorts = s.livePorts := by
        rw [State.framed_flood hnew]
        exact hlive
      rw [if_neg hseen, if_neg hseen, hverdicts, ← hports]
      rw [State.framed_flood hnew, hverdicts]
      split <;> rfl
  have hnew : s.floodsNew l = false := decide_eq_false fun hc => hbroadcast hc.2.2.2.1
  rw [if_neg hbroadcast, if_neg hbroadcast, State.framed_plain hkind hnew]
  by_cases hengine : s.engine.state ≠ .forwarding
  · rw [if_pos hengine, if_pos hengine]
  rw [if_neg hengine, if_neg hengine]
  by_cases hbudget : hdrBudget l.words = 0
  · rw [if_pos hbudget, if_pos hbudget]
  · rw [if_neg hbudget, if_neg hbudget]

end Sys2Proof.Machine
end

section
/-! PROOFS. The stages as one step, and the effects of a frame (for O27 and O31). -/

namespace Sys2Proof.Machine

variable {s t u : State}

/-! ### The stages -/

/-- Stages 6 to 8 (R48 to R53). -/
theorem State.stageKinds_eq {l : Landing} (h : hdrKind l.words ≤ 2) :
    s.stageKinds l =
      match s.kindVerdict l with
      | some v => (s.framed l).conclude l v
      | none => (s.framed l).await l (s.stepAwaited l) := by
  unfold State.stageKinds
  dsimp only
  by_cases h1 : hdrKind l.words = 1
  · have hverdict : s.kindVerdict l = some (.plain .absorb) := if_pos h1
    rw [if_pos h1, hverdict, State.framed_hello h1]
    rfl
  · rw [if_neg h1]
    by_cases h2 : hdrKind l.words = 2
    · rw [if_pos h2]
      exact State.stageNotice_eq h2
    · rw [if_neg h2]
      exact State.stageData_eq (by omega)

/-- The state that a frame leaves before its verdict: as it was unless the frame passes stage 5. -/
def State.afterFrame (s : State) (l : Landing) : State :=
  if s.earlyVerdict l = none then s.framed l else s

/-- A frame that stages 1 to 5 decide. -/
theorem State.runStages_early {l : Landing} {v : Verdict} (h : s.earlyVerdict l = some v) :
    s.runStages l = s.conclude l v := by
  unfold State.earlyVerdict at h
  unfold State.runStages
  repeat' split at h
  all_goals cases h
  next h1 => rw [if_pos h1]
  next h1 h2 => rw [if_neg h1, if_pos h2]
  next h1 h2 h3 => rw [if_neg h1, if_neg h2, if_pos h3]
  next h1 h2 h3 h4 => rw [if_neg h1, if_neg h2, if_neg h3, if_pos h4]
  next h1 h2 h3 h4 h5 => rw [if_neg h1, if_neg h2, if_neg h3, if_neg h4, if_pos h5]
  next h1 h2 h3 h4 h5 h6 => rw [if_neg h1, if_neg h2, if_neg h3, if_neg h4, if_neg h5, if_pos h6]

/-- A frame that passes stage 5. -/
theorem State.runStages_late {l : Landing} (h : s.earlyVerdict l = none) : s.runStages l = s.stageKinds l := by
  unfold State.earlyVerdict at h
  unfold State.runStages
  repeat' split at h
  all_goals cases h
  next h1 h2 h3 h4 h5 h6 => rw [if_neg h1, if_neg h2, if_neg h3, if_neg h4, if_neg h5, if_neg h6]

/-- A frame that a stage decides (R43). -/
theorem State.runStages_decided {l : Landing} {v : Verdict} (h : s.decision l = some v) :
    s.runStages l = (s.afterFrame l).conclude l v := by
  unfold State.decision at h
  unfold State.afterFrame
  cases hearly : s.earlyVerdict l with
  | some w =>
    rw [hearly] at h
    cases h
    rw [State.runStages_early hearly, if_neg nofun]
  | none =>
    rw [hearly] at h
    rw [State.runStages_late hearly, State.stageKinds_eq (State.kind_le_of_late hearly), if_pos rfl,
      show s.kindVerdict l = some v from h]

/-- A frame that needs a table step (R50, R53). -/
theorem State.runStages_undecided {l : Landing} (h : s.decision l = none) :
    s.runStages l = (s.afterFrame l).await l (s.stepAwaited l) := by
  unfold State.decision at h
  unfold State.afterFrame
  cases hearly : s.earlyVerdict l with
  | some w =>
    rw [hearly] at h
    cases h
  | none =>
    rw [hearly] at h
    rw [State.runStages_late hearly, State.stageKinds_eq (State.kind_le_of_late hearly), if_pos rfl,
      show s.kindVerdict l = none from h]

/-! ### What the frame leaves -/

/-- A hello that reaches the Link Estimator, by its transmitter. -/
theorem State.hearsHello_iff (s : State) (l : Landing) :
    s.hearsHello l ↔ s.passesStage5 l ∧ hdrKind l.words = 1 ∧ s.namesNeighbour l := Iff.rfl

/-- The links of a frame that is no hello are those of its update. -/
theorem State.framed_links {l : Landing} (h : hdrKind l.words ≠ 1) :
    (s.framed l).links = (s.updateLinkFromFrame l.link l.signal l.rate).links := by
  by_cases hnew : s.floodsNew l = true
  · rw [State.framed_flood hnew]
  · rw [State.framed_plain h (Bool.not_eq_true _ |>.mp hnew)]

/-- A hello of a heard link: refreshed, then updated (R48, R67). -/
theorem State.framed_refreshes {l : Landing} {i : LinkIx} (hk : hdrKind l.words = 1) (hn : s.namesNeighbour l)
    (hi : s.findLink l.link = some i) (h : heardState (s.link i).state) :
    s.framed l = s.setLink i (((s.link i).refreshedBy l s.settings.signalFloor).updatedBy l) := by
  have halike : s.linksAlike (s.setLink i ((s.link i).refreshedBy l s.settings.signalFloor)) :=
    State.linksAlike_setLink rfl rfl rfl
  have hlink : (s.setLink i ((s.link i).refreshedBy l s.settings.signalFloor)).link i =
      (s.link i).refreshedBy l s.settings.signalFloor := State.link_setLink_same s i _
  rw [State.framed_hello hk, State.helloTaken_refreshes hn hi h,
    State.updateLinkFromFrame_heard ((halike.findLink _).trans hi) (by rw [hlink]; exact h), hlink]
  exact congrArg (fun ls => { s with links := ls }) (Vector.set_set _ _)

/-- A hello of an unknown neighbour: created, then updated (R48, R66). -/
theorem State.framed_creates {l : Landing} {i : LinkIx} (hk : hdrKind l.words = 1) (hn : s.namesNeighbour l)
    (hf : s.findLink l.link = none) (hi : s.freeLink = some i) :
    s.framed l = s.setLink i ((linkCreatedBy l s.settings.signalFloor).updatedBy l) := by
  have hlink : (s.setLink i (linkCreatedBy l s.settings.signalFloor)).link i = linkCreatedBy l s.settings.signalFloor :=
    State.link_setLink_same s i _
  rw [State.framed_hello hk, State.helloTaken_creates hn hf hi,
    State.updateLinkFromFrame_heard (State.findLink_created hn hf _) (by rw [hlink]; exact .inl rfl), hlink]
  exact congrArg (fun ls => { s with links := ls }) (Vector.set_set _ _)

/-- A hello against a full table (R66). -/
theorem State.framed_full {l : Landing} (hk : hdrKind l.words = 1) (hn : s.namesNeighbour l)
    (hf : s.findLink l.link = none) (hi : s.freeLink = none) : s.framed l = (s.count .tableFull).raise .tableFull := by
  have hnone : ((s.count .tableFull).raise .tableFull).findLink l.link = none := hf
  rw [State.framed_hello hk, State.helloTaken_full hn hf hi,
    State.updateLinkFromFrame_unheard fun i hi => by rw [hnone] at hi; cases hi]

/-- A hello that names no neighbour, or of a link that is being freed (R65, R67). -/
theorem State.framed_ignores {l : Landing} (hk : hdrKind l.words = 1)
    (h : ¬s.namesNeighbour l ∨ ∃ i, s.findLink l.link = some i ∧ ¬heardState (s.link i).state) :
    s.framed l = s.updateLinkFromFrame l.link l.signal l.rate := by
  rw [State.framed_hello hk]
  by_cases hn : s.namesNeighbour l
  · obtain ⟨i, hi, hdead⟩ := h.resolve_left (Classical.not_not.2 hn)
    rw [State.helloTaken_dying hn hi hdead]
  · rw [State.helloTaken_ignored hn]

/-- What a frame leaves in the neighbour table (R48, R65 to R67). -/
theorem State.afterFrame_links (s : State) (l : Landing) : s.linksAfterFrame (s.afterFrame l) l := by
  unfold State.linksAfterFrame
  dsimp only
  rw [State.passesStage5_iff]
  unfold State.afterFrame
  refine ⟨fun h => by rw [if_neg h], fun h => ?_⟩
  have hpasses := (s.passesStage5_iff l).2 h
  have hhears (hno : ¬s.hearsHello l) (hk : hdrKind l.words = 1) : ¬s.namesNeighbour l := fun hn => hno ⟨hpasses, hk, hn⟩
  have hsame (i : LinkIx) (hi : s.findLink l.link = some i) (hheard : heardState (s.link i).state) :
      s.updateLinkFromFrame l.link l.signal l.rate = s.setLink i ((s.link i).updatedBy l) :=
    State.updateLinkFromFrame_heard hi hheard
  rw [if_pos h]
  refine ⟨fun i hi hdead => ?dying, fun i hi hheard => ⟨fun hh => ?refreshed, fun hno => ?updated⟩, fun hf hno => ?unknown,
    fun hf hh => ⟨fun i hfree hlow => ?created, fun hfull => ?full⟩⟩
  case dying =>
    have hup : s.updateLinkFromFrame l.link l.signal l.rate = s :=
      State.updateLinkFromFrame_unheard fun j hj => by rw [← Option.some.inj (hi.symm.trans hj)]; exact hdead
    by_cases hk : hdrKind l.words = 1
    · rw [State.framed_ignores hk (.inr ⟨i, hi, hdead⟩), hup]
    · rw [State.framed_links hk, hup]
  case refreshed => rw [State.framed_refreshes hh.2.1 hh.2.2 hi hheard]; rfl
  case updated =>
    by_cases hk : hdrKind l.words = 1
    · rw [State.framed_ignores hk (.inl (hhears hno hk)), hsame i hi hheard]; rfl
    · rw [State.framed_links hk, hsame i hi hheard]; rfl
  case unknown =>
    have hup : s.updateLinkFromFrame l.link l.signal l.rate = s :=
      State.updateLinkFromFrame_unheard fun j hj => by rw [hf] at hj; cases hj
    by_cases hk : hdrKind l.words = 1
    · rw [State.framed_ignores hk (.inl (hhears hno hk)), hup]
    · rw [State.framed_links hk, hup]
  case created =>
    rw [State.framed_creates hh.2.1 hh.2.2 hf ((s.freeLink_eq_some i).2 ⟨hfree, hlow⟩)]; rfl
  case full => rw [State.framed_full hh.2.1 hh.2.2 hf (s.freeLink_eq_none.2 hfull)]; rfl

/-- The hello that finds the table full, in the words of the statements (R66). -/
theorem State.helloRejected_iff (s : State) (l : Landing) :
    s.helloRejected l ↔
      s.earlyVerdict l = none ∧ hdrKind l.words = 1 ∧ s.namesNeighbour l ∧ s.findLink l.link = none ∧ s.freeLink = none := by
  unfold State.helloRejected
  rw [State.hearsHello_iff, State.passesStage5_iff, State.freeLink_eq_none, and_assoc, and_assoc]

/-- What a frame leaves besides: the verdict unit but for the flood cache, and all other blocks. -/
theorem State.framed_eq (s : State) (l : Landing) :
    s.framed l =
      { s with
        links := (s.framed l).links, counters := (s.framed l).counters, events := (s.framed l).events
        verdicts := { s.verdicts with flood := (s.framed l).verdicts.flood } } := by
  by_cases hk : hdrKind l.words = 1
  · rw [State.framed_hello hk, State.updateLinkFromFrame_eq, State.helloTaken, State.takeHello_eq]
  · by_cases hnew : s.floodsNew l = true
    · rw [State.framed_flood hnew, State.updateLinkFromFrame_eq]
    · rw [State.framed_plain hk (Bool.not_eq_true _ |>.mp hnew), State.updateLinkFromFrame_eq]

/-- An update changes the neighbour table alone, and keeps states, nodes and ports. -/
theorem State.updated_kept (s : State) (l : Landing) :
    let v := s.updateLinkFromFrame l.link l.signal l.rate
    s.linksAlike v ∧ v.counters = s.counters ∧ v.events = s.events := by
  intro v
  have halike := s.updateLinkFromFrame_alike l
  have hv : v = _ := s.updateLinkFromFrame_eq l.link l.signal l.rate
  exact ⟨halike, by rw [hv], by rw [hv]⟩

/-- A frame creates a link, finds the table full, or keeps every link's state, node and port (R48, R65 to R67). -/
theorem State.framed_cases (s : State) (l : Landing) :
    (hdrKind l.words = 1 ∧ s.namesNeighbour l ∧ s.findLink l.link = none ∧ s.freeLink = none ∧
        s.framed l = (s.count .tableFull).raise .tableFull) ∨
      (s.namesNeighbour l ∧ s.findLink l.link = none ∧ s.freeLink ≠ none ∧
        ∃ i, s.framed l = s.setLink i ((linkCreatedBy l s.settings.signalFloor).updatedBy l)) ∨
      (¬(hdrKind l.words = 1 ∧ s.namesNeighbour l ∧ s.findLink l.link = none) ∧
        s.linksAlike (s.framed l) ∧ (s.framed l).counters = s.counters ∧ (s.framed l).events = s.events) := by
  have hupdated := s.updated_kept l
  by_cases hk : hdrKind l.words = 1
  · by_cases hn : s.namesNeighbour l
    · cases hf : s.findLink l.link with
      | none =>
        cases hi : s.freeLink with
        | none => exact .inl ⟨hk, hn, rfl, rfl, State.framed_full hk hn hf hi⟩
        | some i => exact .inr (.inl ⟨hn, rfl, nofun, i, State.framed_creates hk hn hf hi⟩)
      | some i =>
        refine .inr (.inr ⟨fun h => (nomatch h.2.2), ?_⟩)
        by_cases hheard : heardState (s.link i).state
        · rw [State.framed_refreshes hk hn hf hheard]
          exact ⟨State.linksAlike_setLink rfl rfl rfl, rfl, rfl⟩
        · rw [State.framed_ignores hk (.inr ⟨i, hf, hheard⟩)]
          exact hupdated
    · rw [State.framed_ignores hk (.inl hn)]
      exact .inr (.inr ⟨fun h => hn h.2.1, hupdated⟩)
  · refine .inr (.inr ⟨fun h => hk h.1, ?_⟩)
    by_cases hnew : s.floodsNew l = true
    · rw [State.framed_flood hnew]
      exact hupdated
    · rw [State.framed_plain hk (Bool.not_eq_true _ |>.mp hnew)]
      exact hupdated

/-- Counters and events of a frame: TABLE-FULL for a rejected hello (R66). -/
theorem State.afterFrame_counts (s : State) (l : Landing) :
    let u := s.afterFrame l
    (¬s.helloRejected l → u.counters = s.counters ∧ u.events = s.events) ∧
      (s.helloRejected l → u.counters = countedAt s.counters 13 ∧
        u.events = s.events.put 8 { s.events.at 8 with pending := true }) := by
  dsimp only
  rw [State.helloRejected_iff]
  unfold State.afterFrame
  by_cases hearly : s.earlyVerdict l = none
  · rw [if_pos hearly]
    rcases s.framed_cases l with ⟨hk, hn, hf, hi, hfull⟩ | ⟨-, -, hi, i, hcreated⟩ | ⟨hno, -, hcounters, hevents⟩
    · rw [hfull]
      exact ⟨fun h => absurd ⟨hearly, hk, hn, hf, hi⟩ h, fun _ => ⟨rfl, rfl⟩⟩
    · rw [hcreated]
      exact ⟨fun _ => ⟨rfl, rfl⟩, fun ⟨_, _, _, _, h⟩ => absurd h hi⟩
    · exact ⟨fun _ => ⟨hcounters, hevents⟩, fun ⟨_, hk, hn, hf, _⟩ => absurd ⟨hk, hn, hf⟩ hno⟩
  · rw [if_neg hearly]
    exact ⟨fun _ => ⟨rfl, rfl⟩, fun h => absurd h.1 hearly⟩

/-- The stale-link flag of the frame's link, before and after it (R56). -/
theorem State.afterFrame_staleFlag (s : State) (l : Landing) :
    (s.afterFrame l).staleFlag l.link = s.staleFlag l.link := by
  unfold State.afterFrame
  split
  · rcases s.framed_cases l with ⟨-, -, -, -, hfull⟩ | ⟨hn, hf, -, i, hcreated⟩ | ⟨-, halike, -, -⟩
    · rw [hfull]
      rfl
    · have hupdated : s.setLink i ((linkCreatedBy l s.settings.signalFloor).updatedBy l) =
          (s.setLink i (linkCreatedBy l s.settings.signalFloor)).setLink i
            ((linkCreatedBy l s.settings.signalFloor).updatedBy l) :=
        congrArg (fun ls => { s with links := ls }) (Vector.set_set _ _).symm
      have hlink := State.link_setLink_same s i (linkCreatedBy l s.settings.signalFloor)
      have halike : (s.setLink i (linkCreatedBy l s.settings.signalFloor)).linksAlike
          ((s.setLink i (linkCreatedBy l s.settings.signalFloor)).setLink i
            ((linkCreatedBy l s.settings.signalFloor).updatedBy l)) :=
        State.linksAlike_setLink (by rw [hlink]; rfl) (by rw [hlink]; rfl) (by rw [hlink]; rfl)
      rw [hcreated, hupdated, halike.staleFlag]
      unfold State.staleFlag
      rw [State.findLink_created hn hf, hf]
      dsimp only
      rw [hlink]
      rfl
    · exact halike.staleFlag l.link
  · rfl

/-- A new pair, in the words of the statements (R52). -/
theorem State.newBroadcast_iff (s : State) (l : Landing) :
    s.newBroadcast l ↔ s.earlyVerdict l = none ∧ s.floodsNew l = true := by
  unfold State.newBroadcast State.floodsNew
  have hholds : s.floodHolds (hdrOrigin l.words) (hdrSequence l.words) = false ↔
      ∀ f ∈ s.verdicts.flood, ¬(f.origin = hdrOrigin l.words ∧ f.seq = hdrSequence l.words) := by
    rw [← Bool.not_eq_true, State.floodHolds_iff]
    simp only [not_exists, not_and]
  rw [State.passesStage5_iff, decide_eq_true_eq, hholds]

/-- What a frame leaves in the flood cache (R52). -/
theorem State.afterFrame_flood (s : State) (l : Landing) : s.floodAfterFrame (s.afterFrame l) l := by
  unfold State.floodAfterFrame State.afterFrame
  rw [State.newBroadcast_iff]
  by_cases hearly : s.earlyVerdict l = none
  · rw [if_pos hearly]
    by_cases hnew : s.floodsNew l = true
    · refine ⟨fun h => absurd ⟨hearly, hnew⟩ h, fun _ => ?_⟩
      rw [State.framed_flood hnew, ← List.drop_one]
      rfl
    · refine ⟨fun _ => ?_, fun h => absurd h.2 hnew⟩
      have hkept (v : State) (hv : v.verdicts = s.verdicts) :
          (v.updateLinkFromFrame l.link l.signal l.rate).verdicts.flood = s.verdicts.flood := by
        rw [State.updateLinkFromFrame_eq, ← hv]
      by_cases hk : hdrKind l.words = 1
      · rw [State.framed_hello hk]
        refine hkept _ ?_
        rw [State.helloTaken, State.takeHello_eq]
      · rw [State.framed_plain hk (Bool.not_eq_true _ |>.mp hnew)]
        exact hkept s rfl
  · rw [if_neg hearly]
    exact ⟨fun _ => rfl, fun h => absurd h.1 hearly⟩

/-- What a frame leaves of the other blocks. -/
theorem State.afterFrame_eq (s : State) (l : Landing) :
    s.afterFrame l =
      { s with
        links := (s.afterFrame l).links, counters := (s.afterFrame l).counters, events := (s.afterFrame l).events
        verdicts := { s.verdicts with flood := (s.afterFrame l).verdicts.flood } } := by
  unfold State.afterFrame
  split
  · exact s.framed_eq l
  · rfl

end Sys2Proof.Machine
end

section
/-! PROOFS. A landing that the Verdict Unit takes, at once or from the wait list (O31). -/

namespace Sys2Proof.Machine

variable {s t u : State}

/-! ### What the stages leave -/

/-- What the stages make of a state and a landing: the effects of the frame, a decided verdict or a computation that waits, and
what no stage touches. -/
structure State.Staged (s t : State) (l : Landing) : Prop where
  effects : s.frameEffects t l s.counters
  waiting : t.verdicts.waiting = s.verdicts.waiting
  routes : t.routes = s.routes
  wanted : t.wanted = s.wanted
  outcomes : t.outcomes = s.outcomes
  purge : t.purge = s.purge
  walker : t.walker = s.walker
  overlay : t.overlay = s.overlay
  decided : ∀ v, s.stageVerdict l = some v →
    t.verdicts.work = none ∧
    t.slots = (if l.current = true then
      s.slots.set l.slot.val { s.slot l.slot with verdict := v.1, verdictLink := none, refusal := v.2.2 }
      else s.slots) ∧
    (∀ a d be n, l.held = true → s.bus.held = some (.landing a d be n) →
      t.bus = { s.bus with held := none } ∧
      t.mem = s.mem.writeWord a (withVerdictByte d (verdictByte v.1 v.2.1 (s.staleFlag l.link))) be) ∧
    (l.held = false → t.bus = s.bus ∧ t.mem = s.mem)
  awaited : s.stageVerdict l = none →
    t.slots = s.slots ∧ t.bus = s.bus ∧ t.mem = s.mem ∧
      t.verdicts.work = some { landing := l, phase := s.stepAwaited l }

/-- The effects of a frame, for a state that keeps what the frame left and counts what the stages decided. -/
theorem State.frameEffects_of_afterFrame {l : Landing} (links : t.links = (s.afterFrame l).links)
    (flood : t.verdicts.flood = (s.afterFrame l).verdicts.flood) (events : t.events = (s.afterFrame l).events)
    (counters : t.counters = match s.stageVerdict l with
      | none => (s.afterFrame l).counters
      | some v => countedFor (s.afterFrame l).counters v.1 v.2.2) : s.frameEffects t l s.counters := by
  obtain ⟨hkept, hrejected⟩ := s.afterFrame_counts l
  have hlinks := s.afterFrame_links l
  have hflood := s.afterFrame_flood l
  unfold State.linksAfterFrame at hlinks
  unfold State.floodAfterFrame at hflood
  rw [← links] at hlinks
  rw [← flood] at hflood
  refine ⟨hlinks, hflood, fun h => ?_, fun h => ?_⟩
  · obtain ⟨hcounters, hevents⟩ := hkept h
    rw [hcounters] at counters
    exact ⟨counters, events.trans hevents⟩
  · obtain ⟨hcounters, hevents⟩ := hrejected h
    rw [hcounters] at counters
    exact ⟨counters, events.trans hevents⟩

/-- What the stages leave of the state that the frame leaves. -/
theorem State.afterFrame_kept (s : State) (l : Landing) :
    let u := s.afterFrame l
    u.verdicts.waiting = s.verdicts.waiting ∧ u.routes = s.routes ∧ u.wanted = s.wanted ∧ u.outcomes = s.outcomes ∧
      u.purge = s.purge ∧ u.walker = s.walker ∧ u.overlay = s.overlay ∧ u.slots = s.slots ∧ u.bus = s.bus ∧ u.mem = s.mem := by
  intro u
  have hu : u = _ := s.afterFrame_eq l
  rw [hu]
  exact ⟨rfl, rfl, rfl, rfl, rfl, rfl, rfl, rfl, rfl, rfl⟩

/-- A landing whose computation waits for a table step (R50, R53). -/
theorem State.runStages_awaited {l : Landing} (h : s.decision l = none) : s.Staged (s.runStages l) l := by
  have hparts : none = s.stageVerdict l := by
    rw [← State.decision_parts, h]
    rfl
  obtain ⟨hwaiting, hroutes, hwanted, houtcomes, hpurge, hwalker, hoverlay, hslots, hbus, hmem⟩ := s.afterFrame_kept l
  rw [State.runStages_undecided h]
  exact {
    effects := State.frameEffects_of_afterFrame rfl rfl rfl (by rw [← hparts]; rfl)
    waiting := hwaiting, routes := hroutes, wanted := hwanted, outcomes := houtcomes, purge := hpurge
    walker := hwalker, overlay := hoverlay
    decided := fun v hv => nomatch hparts.trans hv
    awaited := fun _ => ⟨hslots, hbus, hmem, rfl⟩ }

/-- A landing that a stage decides (R43 to R53, R62). -/
theorem State.runStages_concluded {l : Landing} {w : Verdict} (h : s.decision l = some w) : s.Staged (s.runStages l) l := by
  have hparts : some w.parts = s.stageVerdict l := by
    rw [← State.decision_parts, h]
    rfl
  have hlink := State.decision_link h
  have hstale := s.afterFrame_staleFlag l
  have heffects : s.frameEffects ((s.afterFrame l).conclude l w) l s.counters := by
    obtain ⟨hlinks, -, -, -, hevents⟩ := (s.afterFrame l).conclude_kept l w
    refine State.frameEffects_of_afterFrame hlinks ?_ hevents ?_
    · rw [State.conclude_eq]
    · rw [State.conclude_counters, ← hparts]
      rfl
  obtain ⟨hwaiting, hroutes, hwanted, houtcomes, hpurge, hwalker, hoverlay, hslots, hbus, hmem⟩ := s.afterFrame_kept l
  rw [State.runStages_decided h]
  generalize s.afterFrame l = u at *
  have hslot : u.slot l.slot = s.slot l.slot := by rw [State.slot, hslots]; rfl
  have heq := u.conclude_eq l w
  exact {
    effects := heffects
    waiting := by rw [heq]; exact hwaiting
    routes := by rw [heq]; exact hroutes
    wanted := by rw [heq]; exact hwanted
    outcomes := by rw [heq]; exact houtcomes
    purge := by rw [heq]; exact hpurge
    walker := by rw [heq]; exact hwalker
    overlay := by rw [heq]; exact hoverlay
    decided := fun v hv => by
      obtain rfl : w.parts = v := Option.some.inj (hparts.trans hv)
      refine ⟨u.conclude_work l w, ?_, fun a d be n hl hheld => ?_, fun hl => ?_⟩
      · refine (State.announce_slots _ l w).trans ?_
        unfold State.recordedSlots
        rw [hlink, ← hslots, ← hslot]
        rfl
      · unfold State.conclude
        rw [State.announce_releases hl (s := { u with verdicts := { u.verdicts with work := none } })
          (show u.bus.held = _ from hbus ▸ hheld), ← hbus, ← hmem, ← hstale]
        exact ⟨rfl, rfl⟩
      · unfold State.conclude
        rw [State.announce_passed hl]
        exact ⟨hbus, hmem⟩
    awaited := fun hv => nomatch hparts.trans hv }

/-- The stages of a landing (R43 to R53). -/
theorem State.runStages_staged (s : State) (l : Landing) : s.Staged (s.runStages l) l := by
  cases h : s.decision l with
  | none => exact State.runStages_awaited h
  | some v => exact State.runStages_concluded h

/-! ### The wait list -/

/-- The state without the oldest waiting landing. -/
def State.withWaiting (s : State) (rest : List Landing) : State :=
  { s with verdicts := { s.verdicts with waiting := rest } }

/-- The oldest waiting landing is computed (R42). -/
theorem State.takeWaiting_oldest {l : Landing} {rest : List Landing} (hr : s.inReset = false) (hw : s.verdicts.work = none)
    (h : s.verdicts.waiting = l :: rest) : s.takeWaiting = (s.withWaiting rest).runStages l := by
  have hgo : ¬(s.inReset || s.verdicts.work.isSome) = true := by
    rw [hr, hw]
    nofun
  unfold State.takeWaiting
  rw [if_neg hgo, h]
  rfl

/-- Settles O31: the stages run on the oldest waiting landing. -/
theorem waitListTakesTheOldest : Obligations.WaitListTakesTheOldest := by
  intro l rest s hr hw hwaiting
  have h := (s.withWaiting rest).runStages_staged l
  refine ⟨_, congrArg Host.Outcome.next (State.takeWaiting_oldest hr hw hwaiting), h.waiting, h.routes, h.wanted, h.outcomes,
    h.purge, h.walker, h.overlay, h.effects, h.decided, h.awaited⟩

end Sys2Proof.Machine
end

section
/-! PROOFS. The landing of a frame (O26, O27). -/

namespace Sys2Proof.Machine

variable {s t u : State}

/-! ### A landing at the port -/

/-- The landing that a mesh port's write to word 0 hands to the Verdict Unit (R11). -/
def State.arrival (s : State) (p : Port) (k : SlotNo) (a : WriteAccess) : Landing :=
  landingOf k p (s.slot k).words (s.slot k).marks a.data a.be

/-- The state that the Verdict Unit finds: the record landed and counted, the write held while its verdict byte is enabled and in
memory otherwise (R11, R22). -/
def State.tapped (s : State) (p : Port) (k : SlotNo) (a : WriteAccess) : State :=
  { s with
    slots := s.slots.set k.val ((s.slot k).landedAt p)
    counters := countedAt s.counters 0
    mem := if a.be.getLsbD 0 = true then s.mem else s.mem.writeWord a.addr a.data a.be
    bus :=
      if a.be.getLsbD 0 = true then { s.bus with held := some (.landing a.addr a.data a.be (s.arrival p k a).link) }
      else s.bus }

/-- The landing of a frame (R11). -/
theorem State.land_eq (s : State) (p : Port) (k : SlotNo) (a : WriteAccess) :
    s.land p k a = (s.tapped p k a).submit (s.arrival p k a) := by
  refine congrArg (State.submit · (s.arrival p k a)) ?_
  unfold State.tapLanding State.tapped
  by_cases h : a.be.getLsbD 0 = true
  · simp only [if_pos h]
    rfl
  · simp only [if_neg h]
    rfl

/-- A mesh port's write to word 0 of the slot it fills, while no access is held (R11). -/
theorem exec_landing {a : WriteAccess} {p : Port} {k : SlotNo} (hmesh : s.meshAt a.initiator a.addr p k 0)
    (hstate : (s.slot k).state = .filling) (hport : (s.slot k).passPort = some p) :
    exec (.landing a) s = .next ((s.tapped p k a).submit (s.arrival p k a)) := by
  have hclass : s.writeClass a = .landing p k := by
    rw [State.writeClass_mesh hmesh]
    exact (if_pos rfl).trans (if_pos (SlotRecord.fillingBy_iff.2 ⟨hstate, hport⟩))
  have hrow : Instr.landing a ∈ slotWriteRows a := by simp [slotWriteRows]
  rw [exec_slotWriteRow_free hrow hmesh.1.1, State.performWrite, hclass, ← State.land_eq]

/-! ### The Verdict Unit free -/

/-- A landing handed to the Verdict Unit while it is free (R42). -/
theorem State.submit_free {l : Landing} (hw : s.verdicts.work = none) (h : s.verdicts.waiting = []) :
    s.submit l = s.runStages l := by
  unfold State.submit
  rw [hw, h]
  exact if_pos rfl

/-- A decided landing whose write is held finds memory with the verdict byte and no access held; one whose write passed leaves
both (R11, R22, R36). -/
theorem State.tapped_answered {p : Port} {k : SlotNo} {a : WriteAccess} {c : VerdictCode} {m : PortMask} {stale : Bool}
    (hfree : s.bus.held = none)
    (hheld : ∀ w d be n, (s.arrival p k a).held = true → (s.tapped p k a).bus.held = some (.landing w d be n) →
      t.bus = { (s.tapped p k a).bus with held := none } ∧
      t.mem = (s.tapped p k a).mem.writeWord w (withVerdictByte d (verdictByte c m stale)) be)
    (hpassed : (s.arrival p k a).held = false → t.bus = (s.tapped p k a).bus ∧ t.mem = (s.tapped p k a).mem) :
    t.bus = s.bus ∧
      t.mem = s.mem.writeWord a.addr
        (if a.be.getLsbD 0 = true then withVerdictByte a.data (verdictByte c m stale) else a.data) a.be := by
  unfold State.tapped at hheld hpassed
  by_cases h : a.be.getLsbD 0 = true
  · simp only [if_pos h] at hheld ⊢
    obtain ⟨hbus, hmem⟩ := hheld _ _ _ _ h rfl
    rw [hbus, hmem, ← hfree]
    exact ⟨rfl, rfl⟩
  · simp only [if_neg h] at hpassed ⊢
    exact hpassed (Bool.not_eq_true _ |>.mp h)

/-- Settles O27: the stages run on the landing at once. -/
theorem landingWithVerdictUnitFree : Obligations.LandingWithVerdictUnitFree := by
  intro a p k s hmesh hstate hport hw hwaiting r l
  have ht : exec (.landing a) s = .next ((s.tapped p k a).runStages l) := by
    rw [exec_landing hmesh hstate hport, State.submit_free (s := s.tapped p k a) hw hwaiting]
    rfl
  have h := (s.tapped p k a).runStages_staged l
  refine ⟨_, ht, h.effects, h.waiting.trans hwaiting, h.routes, h.wanted, h.outcomes, h.purge, h.walker, h.overlay,
    fun v hv => ?_, fun hv => ?_⟩
  · obtain ⟨hwork, hslots, hheld, hpassed⟩ := h.decided v hv
    obtain ⟨hbus, hmem⟩ := State.tapped_answered hmesh.1.1 hheld hpassed
    refine ⟨hwork, hbus, hslots.trans ?_, hmem⟩
    exact s.recordedSlots_setSlot (l := l) rfl (r.landedAt p)
      { code := v.1, mask := v.2.1, link := none, reason := v.2.2 }
  · obtain ⟨hslots, hbus, hmem, hwork⟩ := h.awaited hv
    exact ⟨hwork, hslots, hmem, hbus⟩

/-! ### The Verdict Unit busy -/

/-- A landing that waits (R42). -/
theorem State.submit_waits {l : Landing} (hbusy : s.verdicts.work ≠ none ∨ s.verdicts.waiting ≠ [])
    (h : s.verdicts.waiting.length < 4) :
    s.submit l = s.withWaiting (s.verdicts.waiting ++ [l]) := by
  have hgo : ¬(s.verdicts.work.isNone && s.verdicts.waiting.isEmpty) = true := by
    rw [Bool.and_eq_true, Option.isNone_iff_eq_none, List.isEmpty_iff]
    exact fun ⟨hw, hn⟩ => hbusy.elim (fun h => h hw) fun h => h hn
  unfold State.submit
  rw [if_neg hgo]
  exact if_pos h

/-- A landing that finds the wait list full (R42). -/
theorem State.submit_overflows {l : Landing} (h : 4 ≤ s.verdicts.waiting.length) : s.submit l = s.overflow l := by
  have hgo : ¬(s.verdicts.work.isNone && s.verdicts.waiting.isEmpty) = true := by
    cases hw : s.verdicts.waiting with
    | nil => rw [hw] at h; cases h
    | cons _ _ => simp
  unfold State.submit
  rw [if_neg hgo]
  exact if_neg (Nat.not_lt.2 h)

/-- A landing that is LATE at its arrival (R42, R56). -/
theorem State.overflow_tapped {p : Port} {k : SlotNo} {a : WriteAccess} (hfree : s.bus.held = none) :
    (s.tapped p k a).overflow (s.arrival p k a) =
      { s with
        slots := s.slots.set k.val { (s.slot k).landedAt p with verdict := .late, verdictLink := none, refusal := none }
        counters := countedAt (countedAt s.counters 0) 7
        events := s.events.put 6 { s.events.at 6 with pending := true }
        mem := s.mem.writeWord a.addr
          (if a.be.getLsbD 0 = true then withVerdictByte a.data (verdictByte .late 0 (s.staleFlag (s.arrival p k a).link))
            else a.data) a.be } := by
  have hslots : (s.tapped p k a).recordedSlots (s.arrival p k a) (.plain .late) =
      s.slots.set k.val { (s.slot k).landedAt p with verdict := .late, verdictLink := none, refusal := none } :=
    s.recordedSlots_setSlot (l := s.arrival p k a) rfl _ _
  have hrecord : State.raise ((((s.tapped p k a).recordVerdict (s.arrival p k a) (.plain .late))).count .lateVerdicts)
        .lateVerdict =
      { s.tapped p k a with
        slots := s.slots.set k.val { (s.slot k).landedAt p with verdict := .late, verdictLink := none, refusal := none }
        counters := countedAt (countedAt s.counters 0) 7
        events := s.events.put 6 { s.events.at 6 with pending := true } } := by
    rw [← hslots]
    rfl
  unfold State.overflow
  dsimp only
  rw [hrecord]
  by_cases h : a.be.getLsbD 0 = true
  · rw [if_pos (show (s.arrival p k a).held = true from h)]
    unfold State.tapped
    simp only [if_pos h]
    rw [State.releaseLanding_held rfl]
    simp only [← hfree]
    rfl
  · rw [if_neg (show ¬(s.arrival p k a).held = true from h)]
    unfold State.tapped
    simp only [if_neg h]

/-- Settles O26: a landing that finds the Verdict Unit busy waits, or is LATE. -/
theorem landingWaitsOrIsLate : Obligations.LandingWaitsOrIsLate := by
  intro a p k s hmesh hstate hport hbusy r l
  have ht := exec_landing hmesh hstate hport
  refine ⟨fun h => ?_, fun h => ?_⟩
  · rw [ht, State.submit_waits (s := s.tapped p k a) hbusy h]
    rfl
  · rw [ht, State.submit_overflows (s := s.tapped p k a) h, State.overflow_tapped hmesh.1.1]
    rfl

end Sys2Proof.Machine
end

section
/-! PROOFS. The fields of status words, outcomes and headers; the verdict byte and the header check (O25). -/

namespace Sys2Proof.Machine

variable {s t u : State}

/-! ### Fields of a word -/

/-- The number of two vectors side by side. -/
theorem append_toNat {m n : Nat} (x : BitVec m) (y : BitVec n) : (x ++ y).toNat = 2 ^ n * x.toNat + y.toNat := by
  rw [BitVec.toNat_append, ← Nat.shiftLeft_add_eq_or_of_lt y.isLt, Nat.shiftLeft_eq, Nat.mul_comm]

/-- A field inside one byte of a word whose disabled bytes are taken as zero (R35). -/
theorem bitField_masked (d : Word) (be : Enables) {lo len : Nat} (hlo : lo + len ≤ 8 * (lo / 8 + 1)) (hword : lo + len ≤ 32) :
    bitField (d &&& laneMask be) lo len = if be.getLsbD (lo / 8) = true then bitField d lo len else 0 := by
  refine BitVec.eq_of_getLsbD_eq fun i hi => ?_
  have hbyte : (lo + i) / 8 = lo / 8 := by omega
  rw [bitField, BitVec.getLsbD_extractLsb', BitVec.getLsbD_and, laneMask_getLsbD be (by omega), hbyte]
  cases be.getLsbD (lo / 8) <;> simp [bitField]

/-- The same field as a number. -/
theorem numField_masked (d : Word) (be : Enables) {lo len : Nat} (hlo : lo + len ≤ 8 * (lo / 8 + 1)) (hword : lo + len ≤ 32) :
    numField (d &&& laneMask be) lo len =
      if be.getLsbD (lo / 8) = true then d.toNat / 2 ^ lo % 2 ^ len else 0 := by
  rw [numField, bitField_masked d be hlo hword, apply_ite BitVec.toNat, ← numField_eq]
  rfl

/-- The length field lies across bytes 0 and 1 (R35). -/
theorem length_masked (d : Word) (be : Enables) :
    numField (d &&& laneMask be) 16 11 =
      (if be.getLsbD 3 = true then d.toNat / 2 ^ 24 % 8 * 256 else 0) +
      (if be.getLsbD 2 = true then d.toNat / 2 ^ 16 % 256 else 0) := by
  have hsplit : numField (d &&& laneMask be) 16 11 =
      numField (d &&& laneMask be) 24 3 * 256 + numField (d &&& laneMask be) 16 8 := by
    simp only [numField_eq]
    omega
  rw [hsplit, numField_masked d be (by decide) (by decide), numField_masked d be (by decide) (by decide)]
  refine congrArg (· + _) ?_
  cases be.getLsbD 3
  · exact Nat.zero_mul 256
  · rfl

/-- The halves of a word as numbers. -/
theorem halves_toNat (w : Word) : (hiHalf w).toNat = w.toNat / 0x10000 ∧ (loHalf w).toNat = w.toNat % 0x10000 := by
  have hhi : (hiHalf w).toNat = _ := numField_eq w 16 16
  have hlo : (loHalf w).toNat = _ := numField_eq w 0 16
  rw [hhi, hlo]
  have := w.isLt
  omega

/-! ### Status words and outcomes -/

/-- The status fields of a landing (R35). -/
theorem landingOf_fields (k : SlotNo) (p : Port) (ws : HeaderWords) (ms : HeaderMarks) (d : Word) (be : Enables) :
    let l := landingOf k p ws ms d be
    l.linkError = (be.getLsbD 3 && d.getLsbD 31) ∧
    l.rate.val = (if be.getLsbD 3 = true then d.toNat / 2 ^ 28 % 8 else 0) ∧
    l.length =
      (if be.getLsbD 3 = true then d.toNat / 2 ^ 24 % 8 * 256 else 0) +
      (if be.getLsbD 2 = true then d.toNat / 2 ^ 16 % 256 else 0) ∧
    l.signal = if be.getLsbD 1 = true then (d.extractLsb' 8 8).toInt else 0 := by
  refine ⟨?_, numField_masked d be (by decide) (by decide), length_masked d be, ?_⟩
  · have hbit : (d &&& laneMask be).getLsbD 31 = (be.getLsbD 3 && d.getLsbD 31) := by
      rw [BitVec.getLsbD_and, laneMask_getLsbD be (by decide), Bool.and_comm]
    exact hbit
  · have hbyte := congrArg BitVec.toInt (bitField_masked d be (lo := 8) (len := 8) (by decide) (by decide))
    rw [apply_ite BitVec.toInt] at hbyte
    exact hbyte

/-- The fields of an outcome (R37). -/
theorem outcomeOf_fields (n : LinkName) (d : Word) :
    outcomeOf n d =
      { link := n, acked := d.getLsbD 31, attempts := d.toNat / 2 ^ 27 % 16
        rate := ⟨d.toNat / 2 ^ 24 % 8, Nat.mod_lt _ (by decide)⟩ } := by
  have hrate : (bitField d 24 3).toFin = ⟨d.toNat / 2 ^ 24 % 8, Nat.mod_lt _ (by decide)⟩ := Fin.ext (numField_eq d 24 3)
  have hattempts : numField d 27 4 = d.toNat / 2 ^ 27 % 16 := numField_eq d 27 4
  unfold outcomeOf
  rw [hrate, hattempts]

/-! ### Headers -/

/-- The fields of a captured header (R26, R27). -/
theorem header_fields (h : HeaderWords) :
    (hdrTransmitter h).toNat = h[0].toNat / 0x10000 ∧ (hdrReceiver h).toNat = h[0].toNat % 0x10000 ∧
    hdrKind h = h[1].toNat / 2 ^ 28 ∧ hdrFlowClass h = h[1].toNat / 2 ^ 26 % 4 ∧ hdrGateway h = h[1].getLsbD 25 ∧
    hdrBudget h = h[1].toNat / 2 ^ 16 % 256 ∧ (hdrSequence h).toNat = h[1].toNat % 0x10000 ∧
    (hdrOrigin h).toNat = h[2].toNat / 0x10000 ∧ (hdrFinal h).toNat = h[2].toNat % 0x10000 ∧
    hdrStamp h = h[3].toNat / 0x10000 ∧ (hdrCheck h).toNat = h[4].toNat % 0x10000 := by
  obtain ⟨htransmitter, hreceiver⟩ := halves_toNat h[0]
  obtain ⟨horigin, hfinal⟩ := halves_toNat h[2]
  have hkind : hdrKind h = h[1].toNat / 2 ^ 28 := by
    have := h[1].isLt
    rw [hdrKind, numField_eq]
    omega
  exact ⟨htransmitter, hreceiver, hkind, numField_eq _ 26 2, rfl, numField_eq _ 16 8, (halves_toNat h[1]).2, horigin, hfinal,
    (halves_toNat h[3]).1, (halves_toNat h[4]).2⟩

/-! ### The verdict byte -/

/-- A verdict code fits its field (R36). -/
theorem VerdictCode.toNat_lt (c : VerdictCode) : c.toNat < 16 := by cases c <;> decide

/-- The verdict byte as a number (R36). -/
theorem verdictByte_toNat (code : VerdictCode) (mask : PortMask) (stale : Bool) :
    (verdictByte code mask stale).toNat = (if stale = true then 128 else 0) + 16 * mask.toNat + code.toNat := by
  have hcode : (BitVec.ofNat 4 code.toNat).toNat = code.toNat := Nat.mod_eq_of_lt code.toNat_lt
  rw [verdictByte, append_toNat, append_toNat, hcode]
  cases stale
  · rw [if_neg nofun, BitVec.toNat_ofBool, Bool.toNat_false]
    omega
  · rw [if_pos rfl, BitVec.toNat_ofBool, Bool.toNat_true]
    omega

/-- A word with a byte put into its lowest bits (R36). -/
theorem withVerdictByte_eq (d : Word) (b : Byte) : withVerdictByte d b = d.extractLsb' 8 24 ++ b := by
  refine BitVec.eq_of_getLsbD_eq fun i hi => ?_
  have hmask : ∀ j < 32, (0xFFFFFF00#32).getLsbD j = decide (8 ≤ j) := by decide
  simp only [withVerdictByte, BitVec.getLsbD_append, BitVec.getLsbD_extractLsb', BitVec.getLsbD_or, BitVec.getLsbD_and,
    BitVec.getLsbD_setWidth, hmask i hi]
  by_cases hlow : i < 8
  · simp [hlow, hi, Nat.not_le.2 hlow]
  · simp [hlow, Nat.not_lt.1 hlow, show i - 8 < 24 by omega, show 8 + (i - 8) = i by omega]

/-- The same word as a number (R36). -/
theorem withVerdictByte_toNat (d : Word) (b : Byte) : (withVerdictByte d b).toNat = d.toNat / 256 * 256 + b.toNat := by
  have hhigh : (d.extractLsb' 8 24).toNat = d.toNat / 256 := by
    have hfield : (d.extractLsb' 8 24).toNat = _ := numField_eq d 8 24
    have := d.isLt
    rw [hfield]
    omega
  rw [withVerdictByte_eq, append_toNat, hhigh]
  exact congrArg (· + b.toNat) (Nat.mul_comm _ _)

/-! ### The header check -/

/-- One bit of the check (R33). -/
theorem crcBit_eq (reg : Half) (bit : Bool) : crcBit reg bit = checkBit reg bit := by
  unfold crcBit checkBit
  rw [BitVec.msb_eq_getLsbD_last]

/-- The bits of a byte of a word. -/
theorem byteOf_getLsbD (w : Word) (j : Fin 4) {i : Nat} (hi : i < 8) :
    (byteOf w j).getLsbD i = w.getLsbD (8 * (3 - j.val) + i) := by
  rw [byteOf, BitVec.getLsbD_extractLsb', decide_eq_true hi, Bool.true_and]

/-- The bits of a byte of a word in frame order. -/
def byteBits (w : Word) (j : Fin 4) : List Bool :=
  [7, 6, 5, 4, 3, 2, 1, 0].map fun i => w.getLsbD (8 * (3 - j.val) + i)

/-- Bits of a byte of a word taken one after the other. -/
theorem foldl_crcBit (w : Word) (j : Fin 4) {is : List Nat} (h : ∀ i ∈ is, i < 8) (reg : Half) :
    is.foldl (fun r i => crcBit r ((byteOf w j).getLsbD i)) reg =
      (is.map fun i => w.getLsbD (8 * (3 - j.val) + i)).foldl checkBit reg := by
  induction is generalizing reg with
  | nil => rfl
  | cons i is ih =>
    rw [List.foldl_cons, List.map_cons, List.foldl_cons, crcBit_eq, byteOf_getLsbD w j (h i List.mem_cons_self),
      ih fun k hk => h k (List.mem_cons_of_mem i hk)]

/-- The eight bits of a byte (R33). -/
theorem crcByte_eq (reg : Half) (w : Word) (j : Fin 4) : crcByte reg (byteOf w j) = (byteBits w j).foldl checkBit reg :=
  foldl_crcBit w j (by decide) reg

/-- The bits that the header check covers, byte by byte (R33). -/
theorem coveredBits_eq (w3 w4 w5 w6 : Word) :
    coveredBits w3 w4 w5 w6 =
      (byteBits w3 0 ++ byteBits w3 1 ++ byteBits w3 2 ++ byteBits w3 3) ++
      (byteBits w4 0 ++ byteBits w4 1 ++ byteBits w4 2 ++ byteBits w4 3) ++
      (byteBits w5 0 ++ byteBits w5 1 ++ byteBits w5 2 ++ byteBits w5 3) ++ (byteBits w6 0 ++ byteBits w6 1) := rfl

/-- The header check takes the covered bits in frame order (R33). -/
theorem headerCheck_eq (seed : Half) (w3 w4 w5 w6 : Word) :
    headerCheck seed w3 w4 w5 w6 = (coveredBits w3 w4 w5 w6).foldl checkBit seed := by
  simp only [coveredBits_eq, List.foldl_append, ← crcByte_eq]
  rfl

/-- Settles O25: every field has the place that its table gives. -/
theorem statusOutcomeAndHeaderFields : Obligations.StatusOutcomeAndHeaderFields :=
  ⟨fun k p ws ms d be => ⟨rfl, rfl, rfl, rfl, rfl, rfl, rfl, landingOf_fields k p ws ms d be⟩, outcomeOf_fields, header_fields,
    fun code mask stale d => ⟨verdictByte_toNat code mask stale, withVerdictByte_toNat d _⟩, by decide, headerCheck_eq⟩

end Sys2Proof.Machine
end
